-- ==== Sys2Proof/Word.lean ====
section
/-! DEFINITION. The word types of the line and the indices of the part's tables. -/

namespace Sys2Proof

/-- One byte of the serial line (R1, R2). -/
abbrev Byte := BitVec 8

/-- The 16-bit check register of R2. -/
abbrev Word16 := BitVec 16

/-- A string number, 0 to 7 (spec/00_scope.md, Terms). -/
abbrev StringNo := Fin 8

/-- A cell position within a string, 0 to 31 (R25). -/
abbrev Position := Fin 32

/-- A profile number, 0 to 7 (R180). -/
abbrev ProfileNo := Fin 8

/-- A bay number, 0 or 1 (R83). -/
abbrev BayNo := Fin 2

end Sys2Proof
end

