-- ==== Sys2Proof/Syntax.lean ====
section
/-! DEFINITION. The commands of the block: one constructor of `Instr` per row of spec/opcode_table.json.

The rows fall in four groups.
* What arrives from outside: a reset, bytes and frames at a port, a sample of the GASTRIP# pin. Their operands are what
  arrives. A frame's KIND and the bounds of its payload follow from the row; the frame is put on the line with the CRC
  of R2 and goes through the receiver of R3.
* The end of a transmission, and the taking of a waiting offer or reply.
* The management requests: MU takes the request AT THE HEAD OF ITS INPUT QUEUE (R175), so these rows carry no operand:
  the request's arguments stand in the queue, where MGMT_REQUEST put them.
* The expiry of a timer, a tick, the end of a retry hold: the operand names the bay or the string. -/

namespace Sys2Proof

/-- The two serial ports. -/
inductive Port where
  | trunk
  | chain
deriving DecidableEq, Repr

/-- The level of a pin, of a sample of it, or of the trip filter (R117). -/
inductive PinLevel where
  | low
  | high
deriving DecidableEq, Repr

/-- One cell sample of a CELL_REPORT: voltage in mV, t_half, status byte (R17). -/
structure CellSample where
  voltage : BitVec 16
  tHalf : Byte
  status : Byte
deriving DecidableEq, Repr

/-- The state code of a LEVEL_REPORT: 00h OK, 01h LOW, 02h PROBE_FAULT (R17). -/
inductive LevelCode where
  | ok
  | low
  | probeFault
deriving DecidableEq, Repr

/-- The code of a VALVE_REPORT: 00h FULL, 01h MORE, 02h FAULT (R17). -/
inductive ValveCode where
  | full
  | more
  | fault
deriving DecidableEq, Repr

/-- The position of a SWITCH_REPORT: 00h OPEN, 01h FLOAT, 02h EQUALISE, 03h MOVING, 04h FAULT (R17). -/
inductive SwitchCode where
  | opened
  | float
  | equalise
  | moving
  | fault
deriving DecidableEq, Repr

/-- The state of a CHARGER_REPORT: 00h OFF, 01h REGULATING, 02h LIMITING, 03h FAULT (R17). -/
inductive ChargerCode where
  | off
  | regulating
  | limiting
  | fault
deriving DecidableEq, Repr

/-- The commands: one constructor per row of spec/opcode_table.json, in the table's order. -/
inductive Instr where
  /-- RESET# held low (or power-up), then its rise with NODE[2:0] and BAUD at these values (R185, R1). -/
  | coldReset (node : BitVec 3) (baud : PinLevel)
  /-- These bytes, and then a byte with a missing stop bit, arrive at the port (R3). -/
  | lineError (port : Port) (bytes : List Byte)
  /-- These bytes arrive at the port, as they stand on the line, start byte and CRC included (R3, R4). -/
  | badFrame (port : Port) (bytes : List Byte)
  /-- A MGMT_REQUEST frame (kind 30h) for the own node arrives at the trunk port (R6). -/
  | mgmtRequest (src : Byte) (payload : List Byte)
  /-- A frame arrives at the trunk port that is to be forwarded down (R6). -/
  | trunkFrameForward (dst src kind : Byte) (payload : List Byte)
  /-- A command frame to a held field address arrives at the trunk port (R8). -/
  | heldAddressRefusal (dst src kind : Byte) (payload : List Byte)
  /-- A frame arrives at the chain port that Intake does not read or does not take in (R7). -/
  | chainFrameForward (dst src kind : Byte) (payload : List Byte)
  /-- A CELL_REPORT frame (kind 10h) arrives at the chain port (R28). -/
  | cellReport (dst src : Byte) (samples : List CellSample)
  /-- A STRING_REPORT frame (kind 11h): current in mA, voltage in 10 mV (R36). -/
  | stringReport (dst src : Byte) (current : BitVec 32) (voltage : BitVec 16)
  /-- A LEVEL_REPORT frame (kind 12h) (R34). -/
  | levelReport (dst src position : Byte) (level : LevelCode)
  /-- A VALVE_REPORT frame (kind 13h): dispensed volume in mL (R128). -/
  | valveReport (dst src channel : Byte) (code : ValveCode) (dispensed : BitVec 16)
  /-- A SWITCH_REPORT frame (kind 14h) (R108). -/
  | switchReport (dst src : Byte) (position : SwitchCode)
  /-- A CHARGER_REPORT frame (kind 15h) (R96). -/
  | chargerReport (dst src output : Byte) (state : ChargerCode) (voltage current : BitVec 16)
  /-- A GAS_REPORT frame (kind 16h): concentration in 0.1 % LEL, status byte (R114). -/
  | gasReport (dst src : Byte) (concentration : BitVec 16) (status : Byte)
  /-- The last stop bit of the frame in transmission at the port has been sent (R13). -/
  | transmissionEnd (port : Port)
  /-- The oldest waiting offer is taken into a free chain-local slot (R11). -/
  | chainLocalOfferTaken
  /-- The waiting MGMT_REPLY is taken into a free trunk-local slot (R12). -/
  | mgmtReplyTaken
  /-- MU takes a TABLE_WRITE of the Site record from its input queue (R178). -/
  | tableWriteSite
  /-- MU takes a TABLE_WRITE of a Source Map entry (R22). -/
  | tableWriteSourceMap
  /-- MU takes a TABLE_WRITE of a String Table record (R179). -/
  | tableWriteString
  /-- MU takes a TABLE_WRITE of a Cell Table record (R27). -/
  | tableWriteCell
  /-- MU takes a TABLE_WRITE of a Profile (R180). -/
  | tableWriteProfile
  /-- MU takes a TABLE_READ (R181). -/
  | tableRead
  /-- MU takes a RESTORE (R182). -/
  | restore
  /-- MU takes a JOB_START (R70). -/
  | jobStart
  /-- MU takes a JOB_CANCEL (R71). -/
  | jobCancel
  /-- MU takes a SET_CEILING (R72). -/
  | setCeiling
  /-- MU takes a SET_TANK (R127). -/
  | setTank
  /-- MU takes a FETCH_RESULT (R166). -/
  | fetchResult
  /-- MU takes a SNAPSHOT (R169). -/
  | snapshot
  /-- MU takes a READ_SNAPSHOT (R171). -/
  | readSnapshot
  /-- MU takes a SURVEY (R172). -/
  | survey
  /-- MU takes a SWEEP request (R41). -/
  | sweep
  /-- MU takes a RELEASE (R107). -/
  | release
  /-- MU takes a CLEAR_TRIP (R118). -/
  | clearTrip
  /-- MU takes a STATUS (R183). -/
  | status
  /-- MU takes a RESTART (R184). -/
  | restart
  /-- The waiting OK reply of a RESTART is taken, and the restart's effects are made (R184). -/
  | warmRestart
  /-- MU takes a request with LEN 0, an unknown code or a wrong LEN (R18). -/
  | unknownRequest
  /-- The hour tick is delivered to RQ (R24). -/
  | hourTick
  /-- The census of an UNKNOWN string runs out (R39). -/
  | censusExpiry (string : StringNo)
  /-- A PRESENT string has been silent past its limit (R39). -/
  | presenceTimeout (string : StringNo)
  /-- The sweep timer of a string expires (R43). -/
  | sweepTimeout (string : StringNo)
  /-- The confirm timer of a bay expires in TRANSFER_OUT (R90). -/
  | confirmExpiryOut (bay : BayNo)
  /-- The confirm timer of a bay expires in TRANSFER_BACK (R104). -/
  | confirmExpiryBack (bay : BayNo)
  /-- The sample timer of a bay expires (R91). -/
  | sampleTimerExpiry (bay : BayNo)
  /-- The window timer of a bay expires (R92). -/
  | windowExpiry (bay : BayNo)
  /-- The duration timer of a bay expires (R94). -/
  | durationExpiry (bay : BayNo)
  /-- The hold timer of a bay expires (R97). -/
  | holdTimerExpiry (bay : BayNo)
  /-- The settle timer of a string expires (R106). -/
  | settleExpiry (string : StringNo)
  /-- The retry hold of a string ends (R81). -/
  | retryHoldEnd (string : StringNo)
  /-- The lost timer of the gas sensor expires (R116). -/
  | lostTimerExpiry
  /-- The run-on timer of the fan expires (R120). -/
  | runOnExpiry
  /-- The fill timer expires while the round is FILLING (R139). -/
  | fillTimerExpiry
  /-- The fill timer expires while the round is ENDING (R142). -/
  | endingFillExpiry
  /-- A millisecond sample of GASTRIP# reads LOW, as at the filter's flip to LOW (R117). -/
  | tripInputLow
  /-- A millisecond sample of GASTRIP# reads HIGH, as at the filter's flip to HIGH (R117). -/
  | tripInputHigh
  /-- A millisecond sample of GASTRIP# reads this level (R117). -/
  | tripFilterSample (level : PinLevel)
deriving DecidableEq, Repr

end Sys2Proof
end

