-- ==== Sys2Proof/Decode.lean ====
section
/-! DEFINITION. The words of spec/opcode_table.json. The DE-8 is a block: no row of its table has bits, so no word spells a
command. -/

namespace Sys2Proof

/-- The command a word of the table's bits spells: none. -/
def decodeTableWord (_nbits _w : Nat) : Option Instr := none

end Sys2Proof
end

