-- ==== Sys2Proof/Config.lean ====
section
/-! DEFINITION. The capacities, saturation limits and codes the manual fixes. The DE-8 has no implementation-defined
value: every constant here is the manual's, and there is no free value. The cold values of the tables (10.5) stand with
their record types in Machine/State.lean. -/

namespace Sys2Proof.Config

/-- Capacity of the chain-forward and of the trunk-forward queue (R10). -/
def forwardCap : Nat := 16
/-- Capacity of the chain-local and of the trunk-local queue (R10). -/
def localCap : Nat := 8
/-- Capacity of the MU input queue (R14). -/
def muInputCap : Nat := 4
/-- Capacity of the Result Queue (R162). -/
def resultCap : Nat := 16
/-- Capacity of the Source Map (R21). -/
def sourceMapCap : Nat := 64
/-- The largest LEN of a frame (R2). -/
def maxLen : Nat := 40
/-- The start byte of a frame (R2). -/
def startByte : Byte := 0xA5
/-- The generator of the CRC (R2). -/
def crcGenerator : Word16 := 0x1021
/-- The initial value of the check register (R2). -/
def crcInit : Word16 := 0xFFFF
/-- The value at which the frame counters and the 16-bit accumulators hold (R15). -/
def max16 : Nat := 65535
/-- The value at which Q and the job charge hold (R37): 2^40 − 1. -/
def maxCharge : Nat := 1099511627775
/-- The value at which the second counter holds (R24). -/
def maxSecond : Nat := 4294967294
/-- The clamp of a received string current, in mA (R36). -/
def maxCurrent : Int := 400000
/-- Seconds in an hour, the spacing of the hour tick (R24). -/
def hourSeconds : Nat := 3600
/-- The census limit of an UNKNOWN string, in seconds (R39). -/
def censusSeconds : Nat := 60
/-- The seconds the fill timer allows beyond max open (R133). -/
def fillGrace : Nat := 5
/-- The mA·s in one Ah (R59). -/
def mAsPerAh : Nat := 3600000
/-- The mA·s in 0.01 Ah (R61). -/
def mAsPerCentiAh : Nat := 36000

end Sys2Proof.Config
end

