-- ==== Sys2Proof/Machine/State.lean ====
section
/-! DEFINITION. The state of the DE-8, every piece of state the manual gives it, with its value after a cold reset.

Each structure's docstring names the rule that gives the record. Field defaults are the cold values of that rule. -/

namespace Sys2Proof.Machine

open Sys2Proof

/-! ## Faults and refusals -/

/-- Reasons for which the part stops. The manual gives the part none: a computation never fails (R46), a frame that
cannot be read is counted and dropped, and a request that cannot be met is answered with a reply code. The type has no
constructor, so no command faults. -/
inductive Fault
deriving DecidableEq, Repr

/-- Reasons for which the model gives a command no meaning. -/
inductive Refusal where
  /-- Raised by an arm of `exec` whose command has no meaning yet; none is left. Safe. -/
  | notModelled (mnemonic : String)
deriving DecidableEq, Repr

/-! ## Frames, receivers and queues (the Frame Path) -/

/-- A whole frame (R2): LEN is the payload's length. The CRC is kept as received (R4). -/
structure Frame where
  dst : Byte
  src : Byte
  kind : Byte
  payload : List Byte
  crc : Word16
deriving DecidableEq, Repr

/-- A receiver (R3). HEADER is split by the byte it expects next; CHECK by whether the CRC high byte has come. -/
inductive Receiver where
  /-- HUNT: no frame in progress. -/
  | hunt
  /-- HEADER, expecting DST. -/
  | headerDst
  /-- HEADER, expecting SRC. -/
  | headerSrc (dst : Byte)
  /-- HEADER, expecting KIND. -/
  | headerKind (dst src : Byte)
  /-- HEADER, expecting LEN. -/
  | headerLen (dst src kind : Byte)
  /-- PAYLOAD, `missing` bytes to come, `got` gathered so far in the order received. -/
  | payload (dst src kind : Byte) (missing : Nat) (got : List Byte)
  /-- CHECK, expecting the CRC high byte. -/
  | checkHigh (dst src kind : Byte) (payload : List Byte)
  /-- CHECK, expecting the CRC low byte. -/
  | checkLow (dst src kind : Byte) (payload : List Byte) (high : Byte)
deriving DecidableEq, Repr

/-- The arbiter's last-served mark (R13). -/
inductive Mark where
  | localServed
  | forwardServed
deriving DecidableEq, Repr

/-- One port: receiver, transmitter, the two transmit queues and the bad-frame count (R3, R10, R13, R15).
The transmitter is IDLE when `sending` is none, and SENDING that frame otherwise. -/
structure PortState where
  rx : Receiver := .hunt
  sending : Option Frame := none
  mark : Mark := .forwardServed
  localQ : List Frame := []
  forwardQ : List Frame := []
  badFrames : Nat := 0
deriving DecidableEq, Repr

/-- The positions a SWITCH_CMD commands (R17). -/
inductive SwitchTarget where
  | opened
  | float
  | equalise
deriving DecidableEq, Repr

/-- A chain command the part originates, before it becomes a frame (R9, R17). -/
inductive ChainCmd where
  /-- SWITCH_CMD to an address. -/
  | switch (addr : Byte) (target : SwitchTarget)
  /-- CHARGER_CMD ON: setpoint in 10 mV, limit in 100 mA. -/
  | chargerOn (addr : Byte) (output : BayNo) (setpoint limit : Nat)
  /-- CHARGER_CMD OFF. -/
  | chargerOff (addr : Byte) (output : BayNo)
  /-- VALVE_CMD OPEN. -/
  | valveOpen (addr channel : Byte) (pullIn duty maxOpen : Nat)
  /-- VALVE_CMD CLOSE. -/
  | valveClose (addr channel : Byte)
  /-- FAN_CMD. -/
  | fan (addr : Byte) (on : Bool)
  /-- SAMPLE_NOW. -/
  | sampleNow (addr : Byte)
deriving DecidableEq, Repr

/-- The offering activities of R11. -/
inductive Activity where
  | bay (b : BayNo)
  | watering
  | fan
  | sweep (i : StringNo)
deriving DecidableEq, Repr

/-- A waiting offer to the chain-local queue (R11). -/
structure Offer where
  activity : Activity
  cmd : ChainCmd
deriving DecidableEq, Repr

/-- The Frame Path (R10 to R15): both ports, the waiting offers in the order made, and the counters that belong to no
single port's receiver. -/
structure FramePath where
  trunk : PortState := {}
  chain : PortState := {}
  offers : List Offer := []
  upDrops : Nat := 0
  downDrops : Nat := 0
  unmapped : Nat := 0
deriving DecidableEq, Repr

/-! ## The Source Map and the Site record -/

/-- The roles of a Source Map entry (R21). -/
inductive Role where
  | cellMonitor
  | stringSensor
  | switch
  | charger
  | valve
  | levelProbe
  | gasSensor
  | fan
deriving DecidableEq, Repr

/-- A Source Map entry (R21). Fields absent for the role are none. -/
structure MapEntry where
  addr : Byte
  role : Role
  string : Option StringNo := none
  /-- First cell and cell count of a CELL_MONITOR. -/
  block : Option (Nat × Nat) := none
  /-- PASS is true, ABSORB is false. -/
  pass : Bool
deriving DecidableEq, Repr

/-- The Site record with its cold values (10.5, R178). -/
structure Site where
  bays : Nat := 1
  charger : Byte := 0
  /-- In 100 mA. -/
  budget : Nat := 0
  gasSensor : Byte := 0
  fan : Byte := 0
  holdThreshold : Nat := 200
  releaseThreshold : Nat := 100
  holdLimit : Nat := 60
  runOn : Nat := 15
  fillVolume : Nat := 150
  pullIn : Nat := 200
  duty : Nat := 40
  maxOpen : Nat := 30
  sampleTimeout : Nat := 30
  staleAge : Nat := 60
  confirmTime : Nat := 10
  sweepTimeout : Nat := 5
deriving DecidableEq, Repr

/-- A charging profile with its cold values (10.5, R180). -/
structure Profile where
  vEq : Nat := 2400
  floatV : Nat := 2250
  k : Nat := 3300
  clampMin : Nat := 2250
  clampMax : Nat := 2450
  rate : Nat := 50
  maxDuration : Nat := 720
  window : Nat := 15
  tolerance : Nat := 100
  plateauRequired : Nat := 3
  spreadLimit : Nat := 50
  spreadTrigger : Nat := 80
  ovLimit : Nat := 2600
  otLimit : Nat := 100
  gassing : Nat := 336
  settle : Nat := 120
  retryDelay : Nat := 24
deriving DecidableEq, Repr

/-! ## Timers and qualifiers -/

/-- A timer of R85: stopped, or running or paused with its remaining seconds. A running timer with 0 left has reached its
expiry, which is then due. -/
inductive Timer where
  | stopped
  | running (left : Nat)
  | paused (left : Nat)
deriving DecidableEq, Repr

/-- A qualifier of R31: its state as a Bool (set, LOW or HIGH is true, as the owner says) and its agree count. -/
structure Qualifier where
  state : Bool := false
  agree : Nat := 0
deriving DecidableEq, Repr

/-! ## The Cell Table -/

/-- The level state of a cell (R26). -/
inductive LevelState where
  | unknown
  | ok
  | low
  | fault
deriving DecidableEq, Repr

/-- The fill override of a cell (R26). An override record that is absent has all three fields absent. -/
structure FillOverride where
  volume : Option Nat := none
  maxOpen : Option Nat := none
  duty : Option Nat := none
deriving DecidableEq, Repr

/-- A valve binding: address and channel (R26). -/
structure Binding where
  addr : Byte
  channel : Byte
deriving DecidableEq, Repr

/-- A Cell Table record with its cold values (R26). The OV and OT qualifiers are set when true, the LEVEL qualifier is LOW
when true. -/
structure Cell where
  binding : Option Binding := none
  override : FillOverride := {}
  valveFault : Bool := false
  voltage : Nat := 0
  tHalf : Int := 0
  sampleSecond : Option Nat := none
  sampleFault : Bool := false
  ov : Qualifier := {}
  ot : Qualifier := {}
  levelQ : Qualifier := {}
  level : LevelState := .unknown
  lastFill : Option ValveCode := none
  dispensed : Nat := 0
deriving DecidableEq, Repr

/-! ## The String Table -/

/-- The ten string states (R82). -/
inductive StringState where
  | absent
  | float
  | baseline
  | transferOut
  | equalising
  | held
  | transferBack
  | settling
  | watering
  | isolated
deriving DecidableEq, Repr

/-- The presence of a string (R39). -/
inductive Presence where
  | unknown
  | present
  | missing
deriving DecidableEq, Repr

/-- The configuration of a String Table record with its cold values (10.5, R179). -/
structure StringConfig where
  cellCount : Nat := 0
  capacity : Nat := 100
  profile : ProfileNo := 0
  level : Nat := 0
  interval : Nat := 0
  threshold : Nat := 0
  switch : Byte := 0
  sensor : Byte := 0
deriving DecidableEq, Repr

/-- An owed monitor of a sweep (R41). -/
structure Owed where
  addr : Byte
  asked : Bool := false
deriving DecidableEq, Repr

/-- The sweep of a string (R41). -/
inductive Sweep where
  | idle
  | sweeping (owed : List Owed) (timer : Timer)
deriving DecidableEq, Repr

/-- A String Table record: configuration, the run fields of R45, R49, R64, R80, R82 and R83, the census (R39), the sweep
(R41) and the string's 32 Cell Table records (R25). -/
structure StringRec where
  cfg : StringConfig := {}
  state : StringState := .absent
  bay : Option BayNo := none
  presence : Presence := .unknown
  /-- The census start second; none while no census runs (R40). -/
  censusStart : Option Nat := none
  lastArrival : Option Nat := none
  lastCurrent : Int := 0
  lastVoltage : Nat := 0
  q : Nat := 0
  jobCharge : Nat := 0
  startMinute : Nat := 0
  age : Nat := 0
  retryHold : Option Nat := none
  lastMean : Option Int := none
  settle : Timer := .stopped
  sweep : Sweep := .idle
  cells : Vector Cell 32 := Vector.replicate 32 {}
deriving DecidableEq, Repr

/-! ## Requests -/

/-- The kinds of maintenance work (R62). -/
inductive JobKind where
  | equalise
  | watering
deriving DecidableEq, Repr

/-- The sources of a request (R62). -/
inductive Source where
  | management
  | interval
  | spread
  | debt
  | level
deriving DecidableEq, Repr

/-- A set of sources (R62). -/
structure SourceSet where
  management : Bool := false
  interval : Bool := false
  spread : Bool := false
  debt : Bool := false
  level : Bool := false
deriving DecidableEq, Repr

/-- An entry of the Maintenance Request List (R62). -/
structure Entry where
  string : StringNo
  kind : JobKind
  sources : SourceSet
  level : Nat
  arrival : Nat
deriving DecidableEq, Repr

/-! ## Bays -/

/-- The state of a bay (R83). -/
inductive BayState where
  | free
  | busy
  | blocked
deriving DecidableEq, Repr

/-- The class of an end (R20, R165). -/
inductive EndClass where
  | complete
  | abnormal
  | changed
deriving DecidableEq, Repr

/-- The causes of a result (R20). -/
inductive Cause where
  | none
  | plateau
  | duration
  | switch
  | switchFault
  | cellOv
  | thermal
  | charger
  | starved
  | gas
  | gasTrip
  | cancelled
  | restart
  | allFull
  | faults
  | tank
deriving DecidableEq, Repr

/-- An end: a class and a cause (R83, R124). -/
structure EndRec where
  cls : EndClass
  cause : Cause
deriving DecidableEq, Repr

/-- A bay record; the defaults are its cold values, which it also takes when it becomes FREE (R83). `second` is the second
command of the present step while it has not been offered yet (R86). -/
structure Bay where
  state : BayState := .free
  string : Option StringNo := none
  setpoint : Nat := 0
  eqSetpoint : Nat := 0
  limit : Nat := 0
  reduced : Bool := false
  confirm : Timer := .stopped
  sample : Timer := .stopped
  window : Timer := .stopped
  count : Nat := 0
  sum : Int := 0
  prevMean : Option Int := none
  plateau : Nat := 0
  duration : Timer := .stopped
  hold : Timer := .stopped
  startSpread : Option Nat := none
  endSpread : Option Nat := none
  peak : Option Int := none
  ended : Option EndRec := none
  second : Option ChainCmd := none
deriving DecidableEq, Repr

/-! ## The watering round -/

/-- The state of the round (R124). -/
inductive RoundState where
  | idle
  | filling
  | ending
deriving DecidableEq, Repr

/-- How the Fill List was built (R130). -/
inductive Build where
  | full
  | level
deriving DecidableEq, Repr

/-- The reason of a faulted position (R124). -/
inductive FaultReason where
  | notFull
  | valveFault
  | noReport
deriving DecidableEq, Repr

/-- The phase of the present fill (R124). -/
inductive FillPhase where
  | offered
  | outstanding
deriving DecidableEq, Repr

/-- The fill in hand (R124). -/
structure Fill where
  pos : Position
  addr : Byte
  channel : Byte
  volume : Nat
  maxOpen : Nat
  phase : FillPhase
deriving DecidableEq, Repr

/-- An entry of the faulted list (R124). -/
structure Faulted where
  pos : Position
  reason : FaultReason
deriving DecidableEq, Repr

/-- The round record; the defaults are its cold values, which it also takes when the round becomes IDLE (R124). -/
structure Round where
  state : RoundState := .idle
  string : Option StringNo := none
  build : Option Build := none
  startMinute : Nat := 0
  fillList : List Position := []
  attempts : Vector Nat 32 := Vector.replicate 32 0
  fill : Option Fill := none
  fillTimer : Timer := .stopped
  total : Nat := 0
  filled : Nat := 0
  faulted : List Faulted := []
  notReached : Nat := 0
  ended : Option EndRec := none
deriving DecidableEq, Repr

/-- The Watering Engine (R124 to R126): the round record, the pending CLOSE, the tank estimate and reserve. -/
structure Watering where
  round : Round := {}
  pendingClose : Option Binding := none
  tank : Nat := 0
  reserve : Nat := 0
deriving DecidableEq, Repr

/-! ## The Gas Supervisor -/

/-- The gas state (R112). -/
inductive GasState where
  | normal
  | hold
  | trip
deriving DecidableEq, Repr

/-- The gas reason (R112). -/
inductive GasReason where
  | none
  | concentration
  | sensorLost
  | tripInput
deriving DecidableEq, Repr

/-- The sensor state (R113). -/
inductive SensorState where
  | live
  | lost
  | none
deriving DecidableEq, Repr

/-- The fan control (R120). -/
inductive FanState where
  | off
  | on
  | runOn
deriving DecidableEq, Repr

/-- The Gas Supervisor with its cold values (R112 to R122). The gas qualifier is HIGH when true. The trip filter is the
qualifier of R117 with its level kept as a pin level. -/
structure Gas where
  state : GasState := .normal
  reason : GasReason := .none
  sensor : SensorState := .none
  qualifier : Qualifier := {}
  lost : Timer := .stopped
  filter : PinLevel := .high
  filterAgree : Nat := 0
  fan : FanState := .off
  runOn : Timer := .stopped
  bayStrings : Nat := 0
  isolated : Nat := 0
  /-- The STAT pin: true while asserted, driven low (R122). -/
  stat : Bool := false
deriving DecidableEq, Repr

/-! ## The Hold Set -/

/-- The holders of R150. -/
inductive Holder where
  | switch (i : StringNo)
  | charger
  | manifold
  | fan
deriving DecidableEq, Repr

/-- A hold: an address and its holder (R150). -/
structure Hold where
  addr : Byte
  holder : Holder
deriving DecidableEq, Repr

/-! ## The Management Unit -/

/-- A request in the MU input queue: the SRC and the payload of its frame (R14). -/
structure Request where
  src : Byte
  payload : List Byte
deriving DecidableEq, Repr

/-- MU is IDLE, or WAITING with a reply held; `restart` marks the OK reply of a RESTART (R175, R184). -/
inductive MuState where
  | idle
  | waiting (reply : Frame) (restart : Bool)
deriving DecidableEq, Repr

/-- The part of a result record that its kind chooses (R165, R20). -/
inductive ResultPart where
  | equalise (setpoint limit charge : Nat) (startSpread endSpread : Option Nat) (peak : Option Int) (plateau : Nat)
  | watering (filled dispensed notReached : Nat) (faulted : List Faulted)
  | presence (new : Presence)
deriving DecidableEq, Repr

/-- A result record (R165). -/
structure Result where
  string : StringNo
  cls : EndClass
  cause : Cause
  gap : Bool := false
  reduced : Bool := false
  isolated : Bool := false
  startMinute : Nat
  elapsed : Nat
  part : ResultPart
deriving DecidableEq, Repr

/-- The values of a snapshot (R170). -/
structure Snapshot where
  string : StringNo
  state : StringState
  bay : Option BayNo
  setpoint : Nat
  limit : Nat
  elapsed : Nat
  plateau : Nat
  prevMean : Option Int
  charge : Nat
  spread : Option Nat
  mean : Int
  debt : Nat
  minute : Nat
deriving DecidableEq, Repr

/-- The Management Unit (R14, R162, R168, R175). A latch is EMPTY when none. -/
structure Management where
  mu : MuState := .idle
  input : List Request := []
  results : List Result := []
  latches : Vector (Option Snapshot) 8 := Vector.replicate 8 none
deriving DecidableEq, Repr

/-! ## The whole part -/

/-- The second counter, and whether an hour tick has been raised and not yet delivered (R24; DESIGN CHOICE, safe:
notes/assumptions/27.md). -/
structure Clock where
  second : Nat := 0
  hourDue : Bool := false
deriving DecidableEq, Repr

/-- The state of the part. `silenceTimeout` is the sample timeout in force for the census limit of R39: a new one counts from
the second after the write (R178). `evalDue` and `pending` are the model's own: an evaluation of R75 has been triggered in the
present action and not yet made; the queue of commands waiting to be taken (DESIGN CHOICE, safe: notes/assumptions/5.md and
27.md). -/
structure State where
  node : BitVec 3 := 0
  baud : PinLevel := .low
  clock : Clock := {}
  silenceTimeout : Nat := 30
  fp : FramePath := {}
  site : Site := {}
  sourceMap : List MapEntry := []
  profiles : Vector Profile 8 := Vector.replicate 8 {}
  strings : Vector StringRec 8 := Vector.replicate 8 {}
  requests : List Entry := []
  ceiling : Nat := 0
  bays : Vector Bay 2 := Vector.replicate 2 {}
  water : Watering := {}
  gas : Gas := {}
  holds : List Hold := []
  mgmt : Management := {}
  evalDue : Bool := false
  pending : List Instr := []
deriving DecidableEq, Repr

/-- The part right after a cold reset (R185), nothing waiting, with both straps low (DESIGN CHOICE, unsafe:
notes/assumptions/26.md). -/
def State.reset : State := {}

end Sys2Proof.Machine
end

