-- ==== Sys2Proof/Machine/Flags.lean ====
section
/-! DEFINITION. Timers (R85), qualifiers (R31), saturating counts and the roundings and clamps of R47. -/

namespace Sys2Proof.Machine

open Sys2Proof

/-! ## Timers (R85) -/

/-- One step of the second counter: a running timer loses one and stands at 0 until its expiry is taken. -/
def Timer.tick : Timer → Timer
  | .running n => .running (n - 1)
  | t => t

/-- The timer has reached its expiry: running with 0 seconds left. -/
def Timer.due (t : Timer) : Bool := t = .running 0

/-- The timer is running. -/
def Timer.isRunning : Timer → Bool
  | .running _ => true
  | _ => false

/-- Pausing keeps the remaining seconds (R97). -/
def Timer.pause : Timer → Timer
  | .running n => .paused n
  | t => t

/-- Resuming goes on from the remaining seconds (R98). -/
def Timer.resume : Timer → Timer
  | .paused n => .running n
  | t => t

/-! ## Qualifiers (R31) -/

/-- A sample with this condition: agreement clears the count; the third disagreement in a row flips the state. -/
def Qualifier.advance (q : Qualifier) (cond : Bool) : Qualifier :=
  if cond = q.state then { q with agree := 0 }
  else if q.agree + 1 = 3 then { state := cond, agree := 0 }
  else { q with agree := q.agree + 1 }

/-- The sample with this condition flips the qualifier. -/
def Qualifier.flips (q : Qualifier) (cond : Bool) : Bool := cond != q.state && q.agree + 1 == 3

/-! ## Counts, rounding and clamping -/

/-- A 16-bit count that holds at 65,535 (R15). -/
def satInc (n : Nat) : Nat := min (n + 1) Config.max16

/-- An accumulator that holds at its maximum. -/
def satAdd (cap a b : Nat) : Nat := min (a + b) cap

/-- Rounding half up of a / b, b above 0 (R47): floor((2a + b) / 2b). -/
def roundHalfUp (a b : Int) : Int := (2 * a + b) / (2 * b)

/-- The nearer bound when outside the range (R47). -/
def clampInt (lo hi v : Int) : Int := max lo (min hi v)

/-- The value lies in the range, bounds included. -/
def inRange (lo hi v : Nat) : Bool := lo ≤ v && v ≤ hi

end Sys2Proof.Machine
end

