-- ==== Sys2Proof/Machine/Operands.lean ====
section
/-! DEFINITION. What stands in a frame: byte order (R16), the CRC (R2), the payloads of the reports and of the commands
(R17), the reply bodies' codes (R19, R20), and the well-formedness of a report (R17). -/

namespace Sys2Proof.Machine

open Sys2Proof

/-! ## Byte order (R16) -/

/-- An unsigned field of `k` bytes, high byte first (R16). -/
def beBytes : Nat → Nat → List Byte
  | 0, _ => []
  | k + 1, n => BitVec.ofNat 8 (n / 256 ^ k) :: beBytes k n

/-- The number an unsigned field carries, high byte first (R16). -/
def beNat (l : List Byte) : Nat := l.foldl (fun a b => a * 256 + b.toNat) 0

/-- A signed field of `k` bytes, two's complement, high byte first (R16). -/
def beSigned (k : Nat) (i : Int) : List Byte := beBytes k (i % (256 ^ k : Nat)).toNat

/-- The number a signed field carries (R16). -/
def beInt (l : List Byte) : Int :=
  if 2 * beNat l < 256 ^ l.length then (beNat l : Int) else (beNat l : Int) - (256 ^ l.length : Nat)

/-- The `len` bytes of a payload that start at byte `off`. -/
def field (l : List Byte) (off len : Nat) : List Byte := (l.drop off).take len

/-- The unsigned field of `len` bytes at byte `off`. -/
def natField (l : List Byte) (off len : Nat) : Nat := beNat (field l off len)

/-- The one-byte field at byte `off`. -/
def byteField (l : List Byte) (off : Nat) : Byte := BitVec.ofNat 8 (natField l off 1)

/-! ## The CRC and whole frames (R2) -/

/-- One bit into the check register (R2): shift left, and combine with the generator when the bit shifted out differs
from the data bit. -/
def crcBit (r : Word16) (b : Bool) : Word16 :=
  if r.msb != b then (r <<< 1) ^^^ Config.crcGenerator else r <<< 1

/-- One byte into the check register, most significant bit first (R2). -/
def crcByte (r : Word16) (b : Byte) : Word16 :=
  [7, 6, 5, 4, 3, 2, 1, 0].foldl (fun r i => crcBit r (b.getLsbD i)) r

/-- The CRC over the covered bytes (R2). -/
def crcOf (l : List Byte) : Word16 := l.foldl crcByte Config.crcInit

/-- The LEN byte of a payload. -/
def lenByte (payload : List Byte) : Byte := BitVec.ofNat 8 payload.length

/-- The bytes the CRC covers: DST to the last payload byte (R2). -/
def coveredBytes (dst src kind : Byte) (payload : List Byte) : List Byte :=
  dst :: src :: kind :: lenByte payload :: payload

/-- A frame with the CRC of R2. -/
def mkFrame (dst src kind : Byte) (payload : List Byte) : Frame :=
  { dst, src, kind, payload, crc := crcOf (coveredBytes dst src kind payload) }

/-- A frame's bytes as they stand on the line (R2): start byte, header, payload, CRC high byte first. -/
def wireBytes (f : Frame) : List Byte :=
  Config.startByte :: coveredBytes f.dst f.src f.kind f.payload ++ beBytes 2 f.crc.toNat

/-! ## Kinds (R17, R18) -/

def kindCellReport : Byte := 0x10
def kindStringReport : Byte := 0x11
def kindLevelReport : Byte := 0x12
def kindValveReport : Byte := 0x13
def kindSwitchReport : Byte := 0x14
def kindChargerReport : Byte := 0x15
def kindGasReport : Byte := 0x16
def kindMgmtRequest : Byte := 0x30
def kindMgmtReply : Byte := 0x31
def kindReject : Byte := 0x32
def kindNotice : Byte := 0x33

/-- A command kind: 20h to 2Fh (R6). -/
def isCommandKind (k : Byte) : Bool := 0x20 ≤ k.toNat && k.toNat ≤ 0x2F

/-- A field address: 01h to EFh (R5). -/
def isFieldAddr (a : Byte) : Bool := 0x01 ≤ a.toNat && a.toNat ≤ 0xEF

/-- A DE-8 node address: F0h to F7h (R5). -/
def isNodeAddr (a : Byte) : Bool := 0xF0 ≤ a.toNat && a.toNat ≤ 0xF7

/-- An invalid destination: F8h to FEh (R5). -/
def isInvalidDst (a : Byte) : Bool := 0xF8 ≤ a.toNat && a.toNat ≤ 0xFE

/-! ## Codes of the wire -/

def levelCodeByte : LevelCode → Byte
  | .ok => 0x00
  | .low => 0x01
  | .probeFault => 0x02

def levelCodeOf (b : Byte) : Option LevelCode :=
  if b = 0x00 then some .ok else if b = 0x01 then some .low else if b = 0x02 then some .probeFault else none

def valveCodeByte : ValveCode → Byte
  | .full => 0x00
  | .more => 0x01
  | .fault => 0x02

def valveCodeOf (b : Byte) : Option ValveCode :=
  if b = 0x00 then some .full else if b = 0x01 then some .more else if b = 0x02 then some .fault else none

def switchCodeByte : SwitchCode → Byte
  | .opened => 0x00
  | .float => 0x01
  | .equalise => 0x02
  | .moving => 0x03
  | .fault => 0x04

def switchCodeOf (b : Byte) : Option SwitchCode :=
  if b = 0x00 then some .opened else if b = 0x01 then some .float else if b = 0x02 then some .equalise
  else if b = 0x03 then some .moving else if b = 0x04 then some .fault else none

def chargerCodeByte : ChargerCode → Byte
  | .off => 0x00
  | .regulating => 0x01
  | .limiting => 0x02
  | .fault => 0x03

def chargerCodeOf (b : Byte) : Option ChargerCode :=
  if b = 0x00 then some .off else if b = 0x01 then some .regulating else if b = 0x02 then some .limiting
  else if b = 0x03 then some .fault else none

def switchTargetByte : SwitchTarget → Byte
  | .opened => 0x00
  | .float => 0x01
  | .equalise => 0x02

/-- The holder codes of REJECT (R17, R150). -/
def holderByte : Holder → Byte
  | .switch i => BitVec.ofNat 8 i.val
  | .charger => 0x08
  | .manifold => 0x09
  | .fan => 0x0A

/-- The string state codes (R19). -/
def stringStateCode : StringState → Nat
  | .absent => 0
  | .float => 1
  | .baseline => 2
  | .transferOut => 3
  | .equalising => 4
  | .held => 5
  | .transferBack => 6
  | .settling => 7
  | .watering => 8
  | .isolated => 9

/-- The presence codes (R19). -/
def presenceCode : Presence → Nat
  | .unknown => 0
  | .present => 1
  | .missing => 2

/-- The level state codes (R19). -/
def levelStateCode : LevelState → Nat
  | .unknown => 0
  | .ok => 1
  | .low => 2
  | .fault => 3

/-- The bay state codes (R20). -/
def bayStateCode : BayState → Nat
  | .free => 0
  | .busy => 1
  | .blocked => 2

/-- The round state codes (R20). -/
def roundStateCode : RoundState → Nat
  | .idle => 0
  | .filling => 1
  | .ending => 2

/-- The gas state codes (R20). -/
def gasStateCode : GasState → Nat
  | .normal => 0
  | .hold => 1
  | .trip => 2

/-- The gas reason codes (R20). -/
def gasReasonCode : GasReason → Nat
  | .none => 0
  | .concentration => 1
  | .sensorLost => 2
  | .tripInput => 3

/-- The sensor state codes (R20). -/
def sensorStateCode : SensorState → Nat
  | .live => 0
  | .lost => 1
  | .none => 2

/-- The class codes (R20). -/
def classCode : EndClass → Nat
  | .complete => 0
  | .abnormal => 1
  | .changed => 2

/-- The cause codes (R20). -/
def causeCode : Cause → Nat
  | .none => 0x00
  | .plateau => 0x01
  | .duration => 0x02
  | .switch => 0x03
  | .switchFault => 0x04
  | .cellOv => 0x05
  | .thermal => 0x06
  | .charger => 0x07
  | .starved => 0x08
  | .gas => 0x09
  | .gasTrip => 0x0A
  | .cancelled => 0x0B
  | .restart => 0x0C
  | .allFull => 0x10
  | .faults => 0x11
  | .tank => 0x12

/-- The role codes of a Source Map body (R19). -/
def roleCode : Role → Nat
  | .cellMonitor => 1
  | .stringSensor => 2
  | .switch => 3
  | .charger => 4
  | .valve => 5
  | .levelProbe => 6
  | .gasSensor => 7
  | .fan => 8

/-- The role a code names; none for 00h and for a code above 08h (R19). -/
def roleOf (n : Nat) : Option Role :=
  match n with
  | 1 => some .cellMonitor
  | 2 => some .stringSensor
  | 3 => some .switch
  | 4 => some .charger
  | 5 => some .valve
  | 6 => some .levelProbe
  | 7 => some .gasSensor
  | 8 => some .fan
  | _ => none

/-! ## Reports (R17) -/

/-- A well-formed report, its fields as the numbers they carry. -/
inductive Report where
  | cell (samples : List CellSample)
  | string (current : Int) (voltage : Nat)
  | level (position : Nat) (code : LevelCode)
  | valve (channel : Byte) (code : ValveCode) (volume : Nat)
  | switch (position : SwitchCode)
  | charger (output : Nat) (state : ChargerCode) (voltage current : Nat)
  | gas (concentration : Nat) (fault : Bool)
deriving DecidableEq, Repr

/-- The sensor-fault flag: the least significant bit of a status byte (R17). -/
def statusFault (b : Byte) : Bool := b.getLsbD 0

/-- The four bytes of one cell sample (R17). -/
def sampleBytes (c : CellSample) : List Byte := beBytes 2 c.voltage.toNat ++ [c.tHalf, c.status]

/-- The payload of a CELL_REPORT (R17). -/
def cellPayload (l : List CellSample) : List Byte := BitVec.ofNat 8 l.length :: l.flatMap sampleBytes

/-- The payload of a STRING_REPORT (R17). -/
def stringPayload (current : BitVec 32) (voltage : BitVec 16) : List Byte :=
  beBytes 4 current.toNat ++ beBytes 2 voltage.toNat

/-- The payload of a LEVEL_REPORT (R17). -/
def levelPayload (position : Byte) (level : LevelCode) : List Byte := [position, levelCodeByte level]

/-- The payload of a VALVE_REPORT (R17). -/
def valvePayload (channel : Byte) (code : ValveCode) (dispensed : BitVec 16) : List Byte :=
  [channel, valveCodeByte code] ++ beBytes 2 dispensed.toNat

/-- The payload of a SWITCH_REPORT (R17). -/
def switchPayload (position : SwitchCode) : List Byte := [switchCodeByte position]

/-- The payload of a CHARGER_REPORT (R17). -/
def chargerPayload (output : Byte) (state : ChargerCode) (voltage current : BitVec 16) : List Byte :=
  [output, chargerCodeByte state] ++ beBytes 2 voltage.toNat ++ beBytes 2 current.toNat

/-- The payload of a GAS_REPORT (R17). -/
def gasPayload (concentration : BitVec 16) (status : Byte) : List Byte := beBytes 2 concentration.toNat ++ [status]

/-- The samples of a CELL_REPORT, four bytes each; none when a sample is cut short. -/
def parseSamples : List Byte → Option (List CellSample)
  | [] => some []
  | a :: b :: c :: d :: rest =>
    (parseSamples rest).map (⟨BitVec.ofNat 16 (beNat [a, b]), c, d⟩ :: ·)
  | _ => none

/-- CELL_REPORT: count from 1 to 4 and LEN equal to 1 + 4n (R17). -/
def parseCell : List Byte → Option Report
  | n :: rest =>
    if 1 ≤ n.toNat ∧ n.toNat ≤ 4 ∧ rest.length = 4 * n.toNat then (parseSamples rest).map .cell else none
  | [] => none

/-- The report a kind and payload spell, when they are well-formed (R17); none otherwise, and for a kind that is no
report kind. -/
def parseReport (kind : Byte) (p : List Byte) : Option Report :=
  if kind = kindCellReport then parseCell p
  else if kind = kindStringReport then
    match p with
    | [a, b, c, d, e, f] => some (.string (beInt [a, b, c, d]) (beNat [e, f]))
    | _ => none
  else if kind = kindLevelReport then
    match p with
    | [a, b] => (levelCodeOf b).map (.level a.toNat ·)
    | _ => none
  else if kind = kindValveReport then
    match p with
    | [a, b, c, d] => (valveCodeOf b).map (.valve a · (beNat [c, d]))
    | _ => none
  else if kind = kindSwitchReport then
    match p with
    | [a] => (switchCodeOf a).map .switch
    | _ => none
  else if kind = kindChargerReport then
    match p with
    | [a, b, c, d, e, f] => (chargerCodeOf b).map (.charger a.toNat · (beNat [c, d]) (beNat [e, f]))
    | _ => none
  else if kind = kindGasReport then
    match p with
    | [a, b, c] => some (.gas (beNat [a, b]) (statusFault c))
    | _ => none
  else none

/-- The report kind of a role (R23); a FAN has none. -/
def roleKind : Role → Option Byte
  | .cellMonitor => some kindCellReport
  | .stringSensor => some kindStringReport
  | .levelProbe => some kindLevelReport
  | .valve => some kindValveReport
  | .switch => some kindSwitchReport
  | .charger => some kindChargerReport
  | .gasSensor => some kindGasReport
  | .fan => none

/-! ## Frames the part originates (R9, R17, R18) -/

/-- The frame of a chain command: DST, KIND and payload of R9 and R17, with the part's own node address as SRC. -/
def cmdFrame (own : Byte) : ChainCmd → Frame
  | .switch a t => mkFrame a own 0x20 [switchTargetByte t]
  | .chargerOn a b sp lim => mkFrame a own 0x21 ([BitVec.ofNat 8 b.val, 0x01] ++ beBytes 2 sp ++ beBytes 2 lim)
  | .chargerOff a b => mkFrame a own 0x21 ([BitVec.ofNat 8 b.val, 0x00] ++ beBytes 2 0 ++ beBytes 2 0)
  | .valveOpen a ch pull duty mo => mkFrame a own 0x22 ([ch, 0x00] ++ beBytes 2 pull ++ beBytes 1 duty ++ beBytes 1 mo)
  | .valveClose a ch => mkFrame a own 0x22 ([ch, 0x01] ++ beBytes 2 0 ++ beBytes 1 0 ++ beBytes 1 0)
  | .fan a on => mkFrame a own 0x23 [if on then 0x01 else 0x00]
  | .sampleNow a => mkFrame a own 0x24 []

/-- The REJECT for a refused frame (R8, R152). -/
def rejectFrame (own : Byte) (f : Frame) (h : Holder) : Frame :=
  mkFrame f.src own kindReject [f.dst, f.kind, holderByte h]

/-- The NOTICE with the number of results pending (R167). -/
def noticeFrame (own : Byte) (n : Nat) : Frame := mkFrame 0x00 own kindNotice (beBytes 1 n)

/-- The reply codes (R18). -/
inductive ReplyCode where
  | ok
  | empty
  | busy
  | badRange
  | badState
  | badRequest
deriving DecidableEq, Repr

def replyCodeByte : ReplyCode → Byte
  | .ok => 0x00
  | .empty => 0x01
  | .busy => 0x02
  | .badRange => 0x03
  | .badState => 0x04
  | .badRequest => 0x05

/-- A reply: its code and its data. -/
structure Reply where
  code : ReplyCode
  data : List Byte := []
deriving DecidableEq, Repr

/-- The MGMT_REPLY frame (R18, R175): to the SRC of the request, with the request code answered and the reply code. -/
def replyFrame (own dst code : Byte) (r : Reply) : Frame :=
  mkFrame dst own kindMgmtReply (code :: replyCodeByte r.code :: r.data)

/-! ## Optional fields and their absent markers (R16) -/

/-- An optional unsigned field of `k` bytes with its absent marker. -/
def optBytes (k marker : Nat) (v : Option Nat) : List Byte := beBytes k (v.getD marker)

/-- A number as a table index when it is in range. -/
def indexOf? (n : Nat) (v : Nat) : Option (Fin n) := if h : v < n then some ⟨v, h⟩ else none

end Sys2Proof.Machine
end

