-- ==== Sys2Proof/Machine/Ops.lean ====
section
/-! DEFINITION. The shared operations over the state: table access, the transmit queues and their arbiter (R10 to R13),
the frame counters (R15), the Hold Set with its purge (R150 to R153), posting a result (R163, R164, R167). -/

namespace Sys2Proof.Machine

open Sys2Proof

/-! ## Tables of fixed size -/

/-- The table with entry `i` given by `f i`. -/
def tabulate {α : Type} {n : Nat} (f : Fin n → α) : Vector α n := ⟨⟨List.ofFn f⟩, by simp⟩

/-- Replaces one entry. -/
def tset {α : Type} {n : Nat} (v : Vector α n) (i : Fin n) (x : α) : Vector α n := v.set i.val x i.isLt

def allStrings : List StringNo := List.finRange 8
def allBays : List BayNo := List.finRange 2
def allPositions : List Position := List.finRange 32

/-! ## Access to the state -/

def State.str (s : State) (i : StringNo) : StringRec := s.strings[i]
def State.setStr (s : State) (i : StringNo) (r : StringRec) : State := { s with strings := tset s.strings i r }
def State.modStr (s : State) (i : StringNo) (f : StringRec → StringRec) : State := s.setStr i (f (s.str i))

def State.bay (s : State) (b : BayNo) : Bay := s.bays[b]
def State.setBay (s : State) (b : BayNo) (r : Bay) : State := { s with bays := tset s.bays b r }
def State.modBay (s : State) (b : BayNo) (f : Bay → Bay) : State := s.setBay b (f (s.bay b))

def StringRec.cell (r : StringRec) (p : Position) : Cell := r.cells[p]
def StringRec.setCell (r : StringRec) (p : Position) (c : Cell) : StringRec := { r with cells := tset r.cells p c }
def StringRec.modCell (r : StringRec) (p : Position) (f : Cell → Cell) : StringRec := r.setCell p (f (r.cell p))
def StringRec.mapCells (r : StringRec) (f : Position → Cell → Cell) : StringRec :=
  { r with cells := tabulate fun p => f p (r.cell p) }

def State.cell (s : State) (i : StringNo) (p : Position) : Cell := (s.str i).cell p
def State.modCell (s : State) (i : StringNo) (p : Position) (f : Cell → Cell) : State := s.modStr i (·.modCell p f)

/-- The profile a string names (R179). -/
def State.profile (s : State) (i : StringNo) : Profile := s.profiles[(s.str i).cfg.profile]

/-- The same change in every string record. -/
def State.mapStrings (s : State) (f : StringNo → StringRec → StringRec) : State :=
  { s with strings := tabulate fun i => f i (s.str i) }

/-- The own node address: F0h plus the strap value (R5). -/
def State.own (s : State) : Byte := 0xF0 + s.node.setWidth 8

/-- The present second. -/
def State.second (s : State) : Nat := s.clock.second

/-- The minute counter: the second counter divided by 60, rounded down (R24). -/
def State.minute (s : State) : Nat := s.clock.second / 60

/-- A string is fitted when its cell count is not 0 (R25). -/
def State.fitted (s : State) (i : StringNo) : Bool := (s.str i).cfg.cellCount != 0

/-- A position is fitted when it is below its string's cell count (R25). -/
def State.fittedPos (s : State) (i : StringNo) (p : Position) : Bool := p.val < (s.str i).cfg.cellCount

/-- An evaluation trigger of R75. -/
def State.trigger (s : State) : State := { s with evalDue := true }

/-- The string enters FLOAT, which is an evaluation trigger (R75). -/
def State.enterFloat (s : State) (i : StringNo) : State :=
  (s.modStr i fun r => { r with state := .float }).trigger

/-! ## The transmit queues and the arbiter (R10, R13) -/

/-- The transmitter starts a frame of the local queue; the mark follows it. -/
def PortState.startLocal (q : PortState) (f : Frame) (rest : List Frame) : PortState :=
  { q with sending := some f, mark := .localServed, localQ := rest }

/-- The transmitter starts a frame of the forward queue; the mark follows it. -/
def PortState.startForward (q : PortState) (f : Frame) (rest : List Frame) : PortState :=
  { q with sending := some f, mark := .forwardServed, forwardQ := rest }

/-- The arbiter's choice (R13): nothing while SENDING; the only queue that holds a frame; of two, the one that is not the
last-served mark. -/
def PortState.arbitrate (q : PortState) : PortState :=
  match q.sending, q.localQ, q.forwardQ with
  | some _, _, _ => q
  | none, [], [] => q
  | none, f :: l, [] => q.startLocal f l
  | none, [], g :: r => q.startForward g r
  | none, f :: l, g :: r =>
    match q.mark with
    | .forwardServed => q.startLocal f l
    | .localServed => q.startForward g r

/-- A frame joins the local queue at its tail, and the arbiter chooses. -/
def PortState.pushLocal (q : PortState) (f : Frame) : PortState := { q with localQ := q.localQ ++ [f] }.arbitrate

/-- A frame joins the forward queue at its tail, and the arbiter chooses. -/
def PortState.pushForward (q : PortState) (f : Frame) : PortState := { q with forwardQ := q.forwardQ ++ [f] }.arbitrate

/-- The last stop bit has been sent: IDLE, and the arbiter chooses again (R13). -/
def PortState.endTransmission (q : PortState) : PortState := { q with sending := none }.arbitrate

def FramePath.port (fp : FramePath) : Port → PortState
  | .trunk => fp.trunk
  | .chain => fp.chain

def FramePath.setPort (fp : FramePath) (p : Port) (q : PortState) : FramePath :=
  match p with
  | .trunk => { fp with trunk := q }
  | .chain => { fp with chain := q }

def State.modPort (s : State) (p : Port) (f : PortState → PortState) : State :=
  { s with fp := s.fp.setPort p (f (s.fp.port p)) }

/-- The port's bad-frame count rises by one (R15). -/
def State.countBad (s : State) (p : Port) : State :=
  s.modPort p fun q => { q with badFrames := satInc q.badFrames }

def State.countUpDrop (s : State) : State := { s with fp := { s.fp with upDrops := satInc s.fp.upDrops } }
def State.countDownDrop (s : State) : State := { s with fp := { s.fp with downDrops := satInc s.fp.downDrops } }
def State.countUnmapped (s : State) : State := { s with fp := { s.fp with unmapped := satInc s.fp.unmapped } }

/-- A frame bound for the chain-forward queue: its tail, or dropped and counted (R6). -/
def State.forwardDown (s : State) (f : Frame) : State :=
  if s.fp.chain.forwardQ.length < Config.forwardCap then s.modPort .chain (·.pushForward f) else s.countDownDrop

/-- A frame bound for the trunk-forward queue: its tail, or dropped and counted (R7). -/
def State.forwardUp (s : State) (f : Frame) : State :=
  if s.fp.trunk.forwardQ.length < Config.forwardCap then s.modPort .trunk (·.pushForward f) else s.countUpDrop

/-- The trunk-local queue has a free slot. -/
def State.trunkLocalRoom (s : State) : Bool := s.fp.trunk.localQ.length < Config.localCap

/-- A REJECT or NOTICE finds a slot: the queue is not full and no reply waits for the slot that has freed (R12; DEDUCED,
unsafe: notes/assumptions/13.md). -/
def State.noticeRoom (s : State) : Bool := s.trunkLocalRoom && s.mgmt.mu = .idle

/-- A REJECT or NOTICE offered to the trunk-local queue: taken, or dropped and counted (R12). -/
def State.offerUp (s : State) (f : Frame) : State :=
  if s.noticeRoom then s.modPort .trunk (·.pushLocal f) else s.countUpDrop

/-! ## Offers to the chain-local queue (R11) -/

/-- The chain-local queue takes an offer made now: it holds fewer than 8 frames and no earlier offer waits. -/
def State.offerRoom (s : State) : Bool := s.fp.offers.isEmpty && s.fp.chain.localQ.length < Config.localCap

/-- The chain-local queue takes a command's frame. -/
def State.takeCmd (s : State) (c : ChainCmd) : State := s.modPort .chain (·.pushLocal (cmdFrame s.own c))

/-- The offer waits behind those that wait already. -/
def State.waitOffer (s : State) (a : Activity) (c : ChainCmd) : State :=
  { s with fp := { s.fp with offers := s.fp.offers ++ [⟨a, c⟩] } }

/-- The waiting offer of an activity, if any, is withdrawn. -/
def State.withdraw (s : State) (a : Activity) : State :=
  { s with fp := { s.fp with offers := s.fp.offers.filter (·.activity ≠ a) } }

/-! ## The Hold Set (R150 to R153) -/

/-- The holder of an address, if it is held. -/
def State.holderOf (s : State) (a : Byte) : Option Holder := (s.holds.find? (·.addr = a)).map (·.holder)

/-- A new hold at its place in ascending address order. -/
def insertHold (h : Hold) : List Hold → List Hold
  | [] => [h]
  | x :: l => if h.addr.toNat ≤ x.addr.toNat then h :: x :: l else x :: insertHold h l

/-- The purge removes this frame for address `a`: a command kind addressed to it (R152). -/
def purges (a : Byte) (f : Frame) : Bool := f.dst = a && isCommandKind f.kind

/-- The purge of R152: trunk commands to the address leave the chain-forward queue, each with a REJECT, head to tail. -/
def State.purge (s : State) (a : Byte) (h : Holder) : State :=
  let removed := s.fp.chain.forwardQ.filter (purges a)
  let s := s.modPort .chain fun q => { q with forwardQ := q.forwardQ.filter (!purges a ·) }
  removed.foldl (fun s f => s.offerUp (rejectFrame s.own f h)) s

/-- A take (R151): a new hold is added and the queue is purged; an address already held is left as it is. -/
def State.takeHold (s : State) (a : Byte) (h : Holder) : State :=
  match s.holderOf a with
  | some _ => s
  | none => { s with holds := insertHold ⟨a, h⟩ s.holds }.purge a h

/-- Two takes that one block asks for in one action (R151): one address at a time, the lower address first. -/
def State.takeTwo (s : State) (x y : Hold) : State :=
  if y.addr.toNat < x.addr.toNat then (s.takeHold y.addr y.holder).takeHold x.addr x.holder
  else (s.takeHold x.addr x.holder).takeHold y.addr y.holder

/-- A release (R153): the hold on the address with that holder is removed. -/
def State.releaseHold (s : State) (a : Byte) (h : Holder) : State :=
  { s with holds := s.holds.filter (· ≠ ⟨a, h⟩) }

/-- Every hold with this holder is removed (R145). -/
def State.releaseAll (s : State) (h : Holder) : State := { s with holds := s.holds.filter (·.holder ≠ h) }

/-! ## Posting a result (R163, R164, R167) -/

/-- The gap flag is set on the record that is now the oldest (R164). -/
def setGap : List Result → List Result
  | [] => []
  | r :: l => { r with gap := true } :: l

/-- A record joins the Result Queue; a full queue first discards its oldest record (R164). -/
def queueResult (l : List Result) (r : Result) : List Result :=
  if l.length < Config.resultCap then l ++ [r] else setGap l.tail ++ [r]

/-- A posting: the record joins the queue, and one NOTICE with the new count is offered (R163, R167). -/
def State.post (s : State) (r : Result) : State :=
  let s := { s with mgmt := { s.mgmt with results := queueResult s.mgmt.results r } }
  s.offerUp (noticeFrame s.own s.mgmt.results.length)

/-! ## The Source Map -/

/-- The entry at an address, if any (R21). -/
def State.mapped (s : State) (a : Byte) : Option MapEntry := s.sourceMap.find? (·.addr = a)

end Sys2Proof.Machine
end

