-- ==== Sys2Proof/Machine/Arithmetic.lean ====
section
/-! DEFINITION. The Arithmetic Unit (R46 to R61): pure answers from the tables as they stand. Exact integers stand for the
64-bit figures of R47, which no computation exceeds. -/

namespace Sys2Proof.Machine

open Sys2Proof

/-! ## Fresh cells (R29) -/

/-- A cell is fresh (R29): sampled no longer ago than the stale age, no sample fault, position fitted. -/
def State.fresh (s : State) (i : StringNo) (p : Position) : Bool :=
  match (s.cell i p).sampleSecond with
  | none => false
  | some t => s.second - t ≤ s.site.staleAge && !(s.cell i p).sampleFault && s.fittedPos i p

/-- The fresh cells of a string, in ascending position. -/
def State.freshCells (s : State) (i : StringNo) : List Cell :=
  (allPositions.filter (s.fresh i)).map (s.cell i)

/-! ## Mean temperature (R48, R49) -/

/-- The mean t_half of a non-empty list of temperatures, half up (R48). -/
def meanTemp (ts : List Int) : Int := roundHalfUp ts.sum ts.length

/-- The mean temperature of a string: over its fresh cells, else its last mean, else 50 (R48, R49). -/
def State.meanOf (s : State) (i : StringNo) : Int :=
  match s.freshCells i with
  | [] => (s.str i).lastMean.getD 50
  | c :: l => meanTemp ((c :: l).map (·.tHalf))

/-- The computation of R48 writes its result into the last mean when a cell is fresh (R49). -/
def State.noteMean (s : State) (i : StringNo) : State :=
  match s.freshCells i with
  | [] => s
  | _ :: _ => s.modStr i fun r => { r with lastMean := some (s.meanOf i) }

/-- The highest t_half among fresh cells. -/
def maxTemp : List Cell → Option Int
  | [] => none
  | c :: l => some (l.foldl (fun m d => max m d.tHalf) c.tHalf)

/-- The peak after a reading: it rises, and an absent one takes the reading (R88, R93). -/
def newPeak (old reading : Option Int) : Option Int :=
  match old, reading with
  | some a, some b => some (max a b)
  | none, r => r
  | o, none => o

/-! ## Setpoints (R50 to R52) -/

/-- The compensated cell voltage within the profile's clamp, in mV (R50). -/
def cellVoltage (p : Profile) (mean : Int) : Int :=
  clampInt p.clampMin p.clampMax (((2000 * p.vEq : Int) + p.k * (50 - mean) + 1000) / 2000)

/-- The command value of a string setpoint, in 10 mV (R51). -/
def setpointCmd (p : Profile) (mean : Int) (cells : Nat) : Nat := (cellVoltage p mean).toNat * cells / 10

/-- The command value of the held setpoint, in 10 mV (R52). -/
def heldCmd (p : Profile) (cells : Nat) : Nat := p.floatV * cells / 10

/-- The equalise command value of a string now (R50, R51). -/
def State.setpointOf (s : State) (i : StringNo) : Nat :=
  setpointCmd (s.profile i) (s.meanOf i) (s.str i).cfg.cellCount

/-- The held command value of a string now (R52). -/
def State.heldOf (s : State) (i : StringNo) : Nat := heldCmd (s.profile i) (s.str i).cfg.cellCount

/-! ## Current limit and budget (R53 to R55) -/

/-- The requested limit A in mA: capacity by rate, clamped, down to 100 mA (R53). -/
def requestedLimit (capacity rate : Nat) : Nat := min 400000 (max 1000 (capacity * rate)) / 100 * 100

/-- The sum of the current limits of the BUSY bays (R54). -/
def State.busySum (s : State) : Nat :=
  (allBays.map fun b => if (s.bay b).state = .busy then (s.bay b).limit else 0).sum

/-- R54 over A and R: the limit granted and the current-reduced mark, or none when not eligible for current. -/
def grantLimit (a r : Nat) : Option (Nat × Bool) :=
  if a ≤ r then some (a, false)
  else if a ≤ 2 * r ∧ 1000 ≤ r then some (r / 100 * 100, true)
  else none

/-- The answer to "can string i be granted current" (R54). -/
def State.currentFor (s : State) (i : StringNo) : Option (Nat × Bool) :=
  grantLimit (requestedLimit (s.str i).cfg.capacity (s.profile i).rate) (s.site.budget * 100 - s.busySum)

/-! ## Window mean, spread, mean voltage (R56 to R58) -/

/-- The window mean, toward zero; none for a void window (R56). -/
def windowMean (count : Nat) (sum : Int) : Option Int := if count < 3 then none else some (sum.tdiv count)

/-- The number of fresh cells a valid spread needs: ceil(3N / 4) (R57). -/
def spreadThreshold (cells : Nat) : Nat := (3 * cells + 3) / 4

/-- Highest minus lowest of a non-empty list of voltages. -/
def voltageSpan (v : Nat) (l : List Nat) : Nat := l.foldl max v - l.foldl min v

/-- The spread over these fresh cells of a string of `cells` cells; none when invalid (R57). -/
def spreadOver (cells : Nat) : List Cell → Option Nat
  | [] => none
  | c :: l => if spreadThreshold cells ≤ (c :: l).length then some (voltageSpan c.voltage (l.map (·.voltage))) else none

/-- The spread of a string (R57). -/
def State.spreadOf (s : State) (i : StringNo) : Option Nat := spreadOver (s.str i).cfg.cellCount (s.freshCells i)

/-- The mean cell voltage of a string, toward zero; none with no fresh cell (R58). -/
def State.meanVoltage (s : State) (i : StringNo) : Option Nat :=
  match s.freshCells i with
  | [] => none
  | c :: l => some (((c :: l).map (·.voltage)).sum / (c :: l).length)

/-! ## Water debt and the reduction of Q (R59, R60) -/

/-- The water debt in µL per cell (R59). -/
def debt (q g : Nat) : Nat := q * g / Config.mAsPerAh

/-- The water debt of a string now. -/
def State.debtOf (s : State) (i : StringNo) : Nat := debt (s.str i).q (s.profile i).gassing

/-- The new Q after a round that dispensed `d` mL over `n` cells (R60). -/
def reduceQ (q d n g : Nat) : Nat := if g = 0 then q else q - d * 1000 * Config.mAsPerAh / (n * g)

/-! ## Reporting conversions (R61) -/

/-- A charge in 0.01 Ah. -/
def centiAh (mAs : Nat) : Nat := mAs / Config.mAsPerCentiAh

/-- The minutes elapsed since a start minute, saturating. -/
def State.elapsed (s : State) (start : Nat) : Nat := min (s.minute - start) Config.max16

end Sys2Proof.Machine
end

