-- ==== Sys2Proof/Machine/Fan.lean ====
section
/-! DEFINITION. The fan control and the STAT output of the Gas Supervisor (R120 to R122). -/

namespace Sys2Proof.Machine

open Sys2Proof

def State.modGas (s : State) (f : Gas → Gas) : State := { s with gas := f s.gas }

/-- The fan need: a string in a bay state, or a gas state that is not NORMAL (R120). -/
def Gas.need (g : Gas) : Bool := 0 < g.bayStrings || g.state ≠ .normal

/-- STAT is asserted while the gas state is not NORMAL or a string is ISOLATED (R122). -/
def Gas.driveStat (g : Gas) : Gas := { g with stat := g.state ≠ .normal || 0 < g.isolated }

/-- The fan's activity offers a command; it is taken at once or it waits (R11, R121). -/
def State.offerFan (s : State) (on : Bool) : State :=
  if s.offerRoom then s.takeCmd (.fan s.site.fan on) else s.waitOffer .fan (.fan s.site.fan on)

/-- The start of R121: the hold is taken, and FAN_CMD ON is offered; a waiting OFF is withdrawn. -/
def State.fanStart (s : State) : State :=
  ((s.modGas fun g => { g with fan := .on, runOn := .stopped }).withdraw .fan |>.takeHold s.site.fan .fan).offerFan true

/-- The stop of R121: FAN_CMD OFF is offered, and the hold is released; a waiting ON is withdrawn. -/
def State.fanStop (s : State) : State :=
  (((s.modGas fun g => { g with fan := .off, runOn := .stopped }).withdraw .fan).offerFan false).releaseHold s.site.fan .fan

/-- The need arises (R120). -/
def State.needArises (s : State) : State :=
  match s.gas.fan with
  | .off => s.fanStart
  | .on => s
  | .runOn => s.modGas fun g => { g with fan := .on, runOn := .stopped }

/-- The need ends (R120): the run-on starts; a run-on of 0 expires in the action that starts it. -/
def State.needEnds (s : State) : State :=
  match s.gas.fan with
  | .on =>
    if s.site.runOn = 0 then s.fanStop
    else s.modGas fun g => { g with fan := .runOn, runOn := .running (s.site.runOn * 60) }
  | _ => s

/-- The fan control after a change, given whether the need stood before it (R120). While the site fan address is 0 the need
acts on nothing. -/
def State.fanFollow (s : State) (before : Bool) : State :=
  if s.site.fan = 0 then s
  else if before && !s.gas.need then s.needEnds
  else if !before && s.gas.need then s.needArises
  else s

/-- EQ tells GS of a string that enters BASELINE (R120). -/
def State.noteBayEntry (s : State) : State :=
  (s.modGas fun g => { g with bayStrings := g.bayStrings + 1 }).fanFollow s.gas.need

/-- EQ tells GS of a string that leaves the bay states (R120). -/
def State.noteBayExit (s : State) : State :=
  (s.modGas fun g => { g with bayStrings := g.bayStrings - 1 }).fanFollow s.gas.need

/-- EQ tells GS of a string that becomes ISOLATED (R122). -/
def State.noteIsolated (s : State) : State :=
  s.modGas fun g => { g with isolated := g.isolated + 1 }.driveStat

/-- EQ tells GS of a string that RELEASE returns to FLOAT (R122). -/
def State.noteReleased (s : State) : State :=
  s.modGas fun g => { g with isolated := g.isolated - 1 }.driveStat

/-- The run-on timer expires (R120, R121). -/
def State.runOnExpired (s : State) : State :=
  if s.gas.fan = .runOn ∧ s.gas.runOn.due then s.fanStop else s

/-- A changed fan address (R121). `old` is the address in force before the write; the record already holds the new one. -/
def State.fanMoved (s : State) (old : Byte) : State :=
  let s := (s.withdraw .fan).releaseHold old .fan
  if s.site.fan = 0 then s.modGas fun g => { g with fan := .off, runOn := .stopped }
  else if s.gas.fan ≠ .off then (s.takeHold s.site.fan .fan).offerFan true
  else if old = 0 ∧ s.gas.need then s.fanStart
  else s

end Sys2Proof.Machine
end

