-- ==== Sys2Proof/Machine/Equalise.lean ====
section
/-! DEFINITION. The Equalise Engine (R82 to R111): the steps a bay sends, the course of a job, its ends and its result, and
the retry hold and equalise age that follow an end (R64, R80). -/

namespace Sys2Proof.Machine

open Sys2Proof

/-! ## The steps of a bay (R86) -/

/-- The confirm timer starts when the queue takes a SWITCH_CMD EQUALISE or FLOAT (R88, R102). -/
def State.startConfirm (s : State) (b : BayNo) (c : ChainCmd) : State :=
  match c with
  | .switch _ .equalise => s.modBay b fun r => { r with confirm := .running s.site.confirmTime }
  | .switch _ .float => s.modBay b fun r => { r with confirm := .running s.site.confirmTime }
  | _ => s

/-- A bay offers the last command of a step: taken at once, with the timer its taking starts, or left waiting (R11). -/
def State.offerBayLast (s : State) (b : BayNo) (c : ChainCmd) : State :=
  if s.offerRoom then (s.takeCmd c).startConfirm b c else s.waitOffer (.bay b) c

/-- The queue has taken a command of the bay: its timer starts, and the second command of the step is offered (R86). -/
def State.bayTaken (s : State) (b : BayNo) (c : ChainCmd) : State :=
  match (s.bay b).second with
  | none => s.startConfirm b c
  | some d => ((s.startConfirm b c).modBay b fun r => { r with second := none }).offerBayLast b d

/-- A step begins (R86): what waits of the bay's previous step is withdrawn, and the first command is offered. -/
def State.beginStep (s : State) (b : BayNo) (first : ChainCmd) (second : Option ChainCmd) : State :=
  let s := (s.withdraw (.bay b)).modBay b fun r => { r with second := second }
  if s.offerRoom then (s.takeCmd first).bayTaken b first else s.waitOffer (.bay b) first

/-- CHARGER_CMD ON at the bay's setpoint and limit (R86). -/
def State.chargerOn (s : State) (b : BayNo) : ChainCmd :=
  .chargerOn s.site.charger b (s.bay b).setpoint ((s.bay b).limit / 100)

def State.startStep (s : State) (b : BayNo) (i : StringNo) : State :=
  s.beginStep b (s.chargerOn b) (some (.switch (s.str i).cfg.switch .equalise))

def State.setpointStep (s : State) (b : BayNo) : State := s.beginStep b (s.chargerOn b) none

def State.backStep (s : State) (b : BayNo) (i : StringNo) : State :=
  s.beginStep b (.chargerOff s.site.charger b) (some (.switch (s.str i).cfg.switch .float))

def State.isolateStep (s : State) (b : BayNo) (i : StringNo) : State :=
  s.beginStep b (.chargerOff s.site.charger b) (some (.switch (s.str i).cfg.switch .opened))

def State.openStep (s : State) (b : BayNo) (i : StringNo) : State :=
  s.beginStep b (.switch (s.str i).cfg.switch .opened) none

/-! ## Readings a job keeps -/

/-- The peak t_half takes a reading of the fresh cells (R88, R93). -/
def State.notePeak (s : State) (b : BayNo) (i : StringNo) : State :=
  s.modBay b fun r => { r with peak := newPeak r.peak (maxTemp (s.freshCells i)) }

/-- The end, the end spread and the peak are recorded (R101, R102, R105). -/
def State.recordEnd (s : State) (b : BayNo) (i : StringNo) (e : EndRec) : State :=
  (s.modBay b fun r => { r with ended := some e, endSpread := s.spreadOf i }).notePeak b i

/-- The string's equalise setpoint is computed, kept in the bay, and noted as the last mean (R49, R51). -/
def State.newSetpoint (s : State) (b : BayNo) (i : StringNo) : State :=
  (s.noteMean i).modBay b fun r => { r with setpoint := s.setpointOf i, eqSetpoint := s.setpointOf i }

/-! ## The result and the report of an end (R64, R80, R109) -/

/-- The result of a job, from the bay and the string as they stand (R109). -/
def State.equaliseResult (s : State) (b : BayNo) (i : StringNo) (isolated : Bool) (elapsed : Nat) : Result :=
  let r := s.bay b
  let e := r.ended.getD ⟨.abnormal, .none⟩
  { string := i, cls := e.cls, cause := e.cause, reduced := r.reduced, isolated := isolated,
    startMinute := (s.str i).startMinute, elapsed := elapsed,
    part := .equalise r.eqSetpoint (r.limit / 100) (centiAh (s.str i).jobCharge) r.startSpread r.endSpread r.peak r.plateau }

/-- The end is reported to RQ: the retry hold by R80; a COMPLETE end makes the equalise age 0 (R64). -/
def State.reportEnd (s : State) (i : StringNo) (e : EndRec) : State :=
  match e.cls with
  | .complete => s.modStr i fun r => { r with retryHold := none, age := 0 }
  | _ =>
    if e.cause = .cancelled ∨ e.cause = .restart then s
    else s.modStr i fun r => { r with retryHold := some (s.minute + 60 * (s.profile i).retryDelay) }

/-- The result is posted and the end reported, in one action (R109). -/
def State.postEqualise (s : State) (b : BayNo) (i : StringNo) (isolated : Bool) (elapsed : Nat) : State :=
  (s.post (s.equaliseResult b i isolated elapsed)).reportEnd i ((s.bay b).ended.getD ⟨.abnormal, .none⟩)

/-! ## Freeing a bay -/

/-- No bay is BUSY or BLOCKED (R156). -/
def State.baysFree (s : State) : Bool := allBays.all fun b => (s.bay b).state = .free

/-- The bay becomes FREE, which is an evaluation trigger (R75); the switch hold is released, and the charger hold when no
bay is then BUSY or BLOCKED; the string's bay field becomes absent (R101, R103, R107). -/
def State.freeBay (s : State) (b : BayNo) (i : StringNo) : State :=
  let s := s.releaseHold (s.str i).cfg.switch (.switch i)
  let s := ((s.setBay b {}).modStr i fun r => { r with bay := none }).trigger
  if s.baysFree then s.releaseHold s.site.charger .charger else s

/-! ## Ends of a job (R100 to R102) -/

/-- A job ends in BASELINE (R101). -/
def State.endInBaseline (s : State) (b : BayNo) (i : StringNo) (e : EndRec) (elapsed : Nat) : State :=
  ((((s.recordEnd b i e).postEqualise b i false elapsed).freeBay b i).enterFloat i).noteBayExit

/-- A job ends from TRANSFER_OUT, EQUALISING or HELD (R102). R83 and R102 do not say what the bay's setpoint holds once the
charger is commanded OFF: it keeps the value last commanded, which a snapshot in TRANSFER_BACK shows (DESIGN CHOICE, unsafe:
notes/assumptions/31.md). -/
def State.endToTransferBack (s : State) (b : BayNo) (i : StringNo) (e : EndRec) : State :=
  let s := (s.recordEnd b i e).modBay b fun r =>
    { r with window := .stopped, duration := .stopped, hold := .stopped, sample := .stopped, confirm := .stopped }
  (s.modStr i fun r => { r with state := .transferBack }).backStep b i

/-- The job of a bay ends: by R101 from BASELINE, by R102 from TRANSFER_OUT, EQUALISING and HELD; in every other state
nothing ends. -/
def State.endJob (s : State) (b : BayNo) (e : EndRec) : State :=
  match (s.bay b).string with
  | none => s
  | some i =>
    match (s.str i).state with
    | .baseline => s.endInBaseline b i e (s.elapsed (s.str i).startMinute)
    | .transferOut => s.endToTransferBack b i e
    | .equalising => s.endToTransferBack b i e
    | .held => s.endToTransferBack b i e
    | _ => s

/-- The job of a string ends ABNORMAL with this cause, when the string has a bay. -/
def State.endStringJob (s : State) (i : StringNo) (cause : Cause) : State :=
  match (s.str i).bay with
  | none => s
  | some b => s.endJob b ⟨.abnormal, cause⟩

/-! ## Grant to EQUALISING (R87 to R89) -/

/-- A sweep has completed (R88): a string in BASELINE takes its baseline and begins the transfer; any other ignores it. -/
def State.sweepComplete (s : State) (i : StringNo) : State :=
  match (s.str i).state, (s.str i).bay with
  | .baseline, some b =>
    let s := (s.modBay b fun r => { r with startSpread := s.spreadOf i }).notePeak b i
    let s := s.newSetpoint b i
    (s.modStr i fun r => { r with state := .transferOut }).startStep b i
  | _, _ => s

/-- Every OV qualifier of the string returns to clear (R32, R89). -/
def StringRec.clearOv (r : StringRec) : StringRec := r.mapCells fun _ c => { c with ov := {} }

/-- The transfer is confirmed (R89). -/
def State.confirmOut (s : State) (b : BayNo) (i : StringNo) : State :=
  let p := s.profile i
  let s := s.modStr i StringRec.clearOv
  let s := s.modBay b fun r =>
    { r with confirm := .stopped, sample := .running s.site.sampleTimeout, prevMean := none, plateau := 0, count := 0, sum := 0 }
  if s.gas.state = .normal then
    (s.modBay b fun r => { r with duration := .running (p.maxDuration * 60), window := .running (p.window * 60) }).modStr i
      fun r => { r with state := .equalising }
  else
    let s := s.modBay b fun r =>
      { r with duration := .paused (p.maxDuration * 60), window := .paused (p.window * 60),
               hold := .running (s.site.holdLimit * 60), setpoint := s.heldOf i }
    (s.modStr i fun r => { r with state := .held }).setpointStep b

/-! ## Return to float and isolation (R103 to R107) -/

/-- A string enters SETTLING with this settle time; a settle time of 0 expires in the same action (R103, R106). -/
def State.startSettle (s : State) (i : StringNo) (seconds : Nat) : State :=
  if seconds = 0 then s.enterFloat i else s.modStr i fun r => { r with state := .settling, settle := .running seconds }

/-- A string becomes ISOLATED and its bay BLOCKED; the result is posted with the isolated flag (R104, R105). -/
def State.isolate (s : State) (b : BayNo) (i : StringNo) : State :=
  (((s.postEqualise b i true (s.elapsed (s.str i).startMinute))).noteBayExit).noteIsolated

/-- The confirm timer of a bay whose string is TRANSFER_BACK expires (R104). -/
def State.confirmBackExpired (s : State) (b : BayNo) (i : StringNo) : State :=
  let s := s.modStr i fun r => { r with state := .isolated }
  let s := s.modBay b fun r => { r with state := .blocked, confirm := .stopped }
  (s.openStep b i).isolate b i

/-- A SWITCH_REPORT FAULT isolates the string (R105). R105 stops every running timer of the bay and is silent on a paused one:
the paused window and duration timers of a HELD string stop too (DESIGN CHOICE, unsafe:
notes/assumptions/28.md). The BLOCKED bay keeps the setpoint last commanded, as in `State.endToTransferBack` (DESIGN CHOICE,
unsafe: notes/assumptions/31.md). -/
def State.switchFault (s : State) (b : BayNo) (i : StringNo) : State :=
  let s := if (s.str i).state = .transferBack then s else s.recordEnd b i ⟨.abnormal, .switchFault⟩
  let s := s.modBay b fun r =>
    { r with state := .blocked, confirm := .stopped, sample := .stopped, window := .stopped, duration := .stopped,
             hold := .stopped }
  let s := s.modStr i fun r => { r with state := .isolated }
  (s.isolateStep b i).isolate b i

/-- RELEASE of an ISOLATED string (R107). -/
def State.releaseString (s : State) (i : StringNo) : State :=
  match (s.str i).bay with
  | none => (s.enterFloat i).noteReleased
  | some b => (((s.withdraw (.bay b)).freeBay b i).enterFloat i).noteReleased

/-! ## Samples, windows and timers (R90 to R94) -/

/-- A sample-arrived event (R91). -/
def State.sampleArrived (s : State) (i : StringNo) (current : Int) : State :=
  match (s.str i).bay with
  | none => s
  | some b =>
    match (s.str i).state with
    | .equalising =>
      s.modBay b fun r =>
        let r := { r with sample := .running s.site.sampleTimeout }
        if r.count < Config.max16 then { r with count := r.count + 1, sum := r.sum + current } else r
    | .held => s.modBay b fun r => { r with sample := .running s.site.sampleTimeout }
    | _ => s

/-- The window is a plateau window (R92, step 3). -/
def isPlateau (p : Profile) (prev : Option Int) (mean : Int) (spread : Option Nat) : Bool :=
  match prev, spread with
  | some m, some w => (mean - m).natAbs ≤ p.tolerance && w ≤ p.spreadLimit
  | _, _ => false

/-- Steps 1 to 4 of R92: a void window changes nothing; any other sets the plateau count and the previous mean. -/
def judgeWindow (p : Profile) (spread : Option Nat) (r : Bay) : Bay :=
  match windowMean r.count r.sum with
  | none => r
  | some m => { r with plateau := if isPlateau p r.prevMean m spread then r.plateau + 1 else 0, prevMean := some m }

/-- The recomputation at a window end (R93): a new value is kept and commanded; the peak is updated. -/
def State.recompute (s : State) (b : BayNo) (i : StringNo) : State :=
  let sp := s.setpointOf i
  let s := (s.noteMean i).notePeak b i
  if sp = (s.bay b).setpoint then s
  else (s.modBay b fun r => { r with setpoint := sp, eqSetpoint := sp }).setpointStep b

/-- The window timer of a bay whose string is EQUALISING expires (R92). -/
def State.windowExpired (s : State) (b : BayNo) (i : StringNo) : State :=
  let p := s.profile i
  let s := s.modBay b (judgeWindow p (s.spreadOf i))
  if p.plateauRequired ≤ (s.bay b).plateau then s.endJob b ⟨.complete, .plateau⟩
  else (s.recompute b i).modBay b fun r => { r with count := 0, sum := 0, window := .running (p.window * 60) }

/-! ## Gas changes (R97 to R99) -/

/-- NORMAL to HOLD: an EQUALISING string enters HELD (R97). -/
def State.gasHold (s : State) (b : BayNo) (i : StringNo) : State :=
  let s := s.modBay b fun r =>
    { r with window := r.window.pause, duration := r.duration.pause, hold := .running (s.site.holdLimit * 60),
             setpoint := s.heldOf i }
  (s.modStr i fun r => { r with state := .held }).setpointStep b

/-- HOLD to NORMAL: a HELD string returns to EQUALISING (R98). -/
def State.gasNormal (s : State) (b : BayNo) (i : StringNo) : State :=
  let p := s.profile i
  let s := (s.newSetpoint b i).notePeak b i
  let s := s.modBay b fun r =>
    { r with hold := .stopped, prevMean := none, plateau := 0, count := 0, sum := 0, window := .running (p.window * 60),
             duration := r.duration.resume }
  (s.setpointStep b).modStr i fun r => { r with state := .equalising }

/-- EQ acts on a change of the gas state for one bay (R97, R98, R99). -/
def State.gasChangeBay (old : GasState) (s : State) (b : BayNo) : State :=
  match (s.bay b).string with
  | none => s
  | some i =>
    match s.gas.state with
    | .hold => if old = .normal ∧ (s.str i).state = .equalising then s.gasHold b i else s
    | .normal => if old = .hold ∧ (s.str i).state = .held then s.gasNormal b i else s
    | .trip => s.endJob b ⟨.abnormal, .gasTrip⟩

/-- EQ acts on a change of the gas state, bay 0 and then bay 1 (R119). -/
def State.gasChangeEq (s : State) (old : GasState) : State := allBays.foldl (State.gasChangeBay old) s

end Sys2Proof.Machine
end

