-- ==== Sys2Proof/Machine/Watering.lean ====
section
/-! DEFINITION. The Watering Engine (R124 to R149): the Fill List, the next-fill step, fills and their reports, cancels and
round ends. -/

namespace Sys2Proof.Machine

open Sys2Proof

/-- The command is a VALVE_CMD OPEN. -/
def isValveOpen : ChainCmd → Bool
  | .valveOpen .. => true
  | _ => false

def State.modWater (s : State) (f : Watering → Watering) : State := { s with water := f s.water }
def State.modRound (s : State) (f : Round → Round) : State := s.modWater fun w => { w with round := f w.round }

/-- The VALVE_CMD OPEN still waiting for the queue is withdrawn (R134, R141, R148); a CLOSE is never withdrawn (R125). -/
def State.withdrawOpen (s : State) : State :=
  { s with fp := { s.fp with offers := s.fp.offers.filter fun o => !isValveOpen o.cmd } }

/-- The available water: estimate minus reserve, signed (R126). -/
def Watering.available (w : Watering) : Int := (w.tank : Int) - w.reserve

/-! ## Fill settings and the Fill List (R129, R130, R132, R133) -/

/-- The fill volume of a cell now (R132). -/
def State.volumeOf (s : State) (i : StringNo) (p : Position) : Nat := (s.cell i p).override.volume.getD s.site.fillVolume

/-- The max open of a cell now (R133). -/
def State.maxOpenOf (s : State) (i : StringNo) (p : Position) : Nat := (s.cell i p).override.maxOpen.getD s.site.maxOpen

/-- The hold duty of a cell now (R133). -/
def State.dutyOf (s : State) (i : StringNo) (p : Position) : Nat := (s.cell i p).override.duty.getD s.site.duty

/-- The build a source set gives: FULL with MANAGEMENT or DEBT, LEVEL otherwise (R130). -/
def buildOf (src : SourceSet) : Build := if src.management || src.debt then .full else .level

/-- A cell joins the list of a build: bound, its valve fault flag clear, and its level state as the build asks (R130). -/
def Cell.listed (c : Cell) (build : Build) : Bool :=
  c.binding.isSome && !c.valveFault &&
    match build with
    | .full => c.level ≠ .fault
    | .level => c.level = .low

/-- The Fill List WT would build now, in ascending position (R74, R130). -/
def State.fillListFor (s : State) (i : StringNo) (build : Build) : List Position :=
  allPositions.filter fun p => s.fittedPos i p && (s.cell i p).listed build

/-! ## Round end (R143 to R146) -/

/-- The Q of the round's string is settled (R144). -/
def State.settleQ (s : State) (i : StringNo) (e : EndRec) : State :=
  s.modStr i fun r =>
    { r with q :=
        if e.cause = .allFull ∧ s.water.round.build = some .full then 0
        else reduceQ r.q s.water.round.total r.cfg.cellCount (s.profile i).gassing }

/-- The result of the round, from its record as it stands (R146). -/
def State.wateringResult (s : State) (i : StringNo) (elapsed : Nat) : Result :=
  let r := s.water.round
  let e := r.ended.getD ⟨.abnormal, .none⟩
  { string := i, cls := e.cls, cause := e.cause, startMinute := r.startMinute, elapsed := elapsed,
    part := .watering r.filled r.total r.notReached r.faulted }

/-- The end and the not-reached count are formed, and the positions on the list are removed (R143). `extra` is 1 when the
end withdrew an offered fill, finished a cancelled one, or ended an outstanding one at a warm restart. -/
def Round.close (r : Round) (e : EndRec) (extra : Nat) : Round :=
  { r with ended := some e, notReached := r.fillList.length + extra, fillList := [] }

/-- The round ends (R143 to R146): the record is closed, Q is settled, the manifold holds are released, the string enters
FLOAT, the record takes its IDLE values, and the result is posted. -/
def State.endRoundWith (s : State) (e : EndRec) (extra elapsed : Nat) : State :=
  let s := s.modRound fun r => r.close e extra
  match s.water.round.string with
  | none => (s.modRound fun _ => {}).trigger
  | some i =>
    let result := s.wateringResult i elapsed
    let s := ((s.settleQ i e).releaseAll .manifold).enterFloat i
    (s.modRound fun _ => {}).post result

/-- The round ends, its elapsed minutes counted to the present minute (R146). -/
def State.endRound (s : State) (e : EndRec) (extra : Nat) : State :=
  s.endRoundWith e extra (s.elapsed s.water.round.startMinute)

/-! ## Openings and the next-fill step (R132, R133) -/

/-- The queue has taken the OPEN: the fill is OUTSTANDING and its timer starts at max open + 5 s (R133). -/
def State.openTaken (s : State) : State :=
  s.modRound fun r =>
    match r.fill with
    | none => r
    | some f => { r with fill := some { f with phase := .outstanding }, fillTimer := .running (f.maxOpen + Config.fillGrace) }

/-- An opening of the head of the Fill List (R133). -/
def State.openFill (s : State) (i : StringNo) (p : Position) (rest : List Position) : State :=
  match (s.cell i p).binding with
  | none => s
  | some b =>
    let cmd := ChainCmd.valveOpen b.addr b.channel s.site.pullIn (s.dutyOf i p) (s.maxOpenOf i p)
    let fill : Fill :=
      { pos := p, addr := b.addr, channel := b.channel, volume := s.volumeOf i p, maxOpen := s.maxOpenOf i p, phase := .offered }
    let s := s.modRound fun r =>
      { r with fillList := rest, fill := some fill, attempts := tset r.attempts p (r.attempts[p] + 1) }
    if s.offerRoom then (s.takeCmd cmd).openTaken else s.waitOffer .watering cmd

/-- The end of a round whose list is empty (R143). -/
def emptyListEnd (r : Round) : EndRec := ⟨.complete, if r.faulted.isEmpty then .allFull else .faults⟩

/-- The next-fill step (R132), taken while the round is FILLING, its fill field absent and no CLOSE pending. -/
def State.nextFill (s : State) : State :=
  if s.water.round.state = .filling ∧ s.water.round.fill = none ∧ s.water.pendingClose = none then
    match s.water.round.string, s.water.round.fillList with
    | some i, p :: rest =>
      if s.water.available < s.volumeOf i p then s.endRound ⟨.abnormal, .tank⟩ 0 else s.openFill i p rest
    | _, _ => s.endRound (emptyListEnd s.water.round) 0
  else s

/-! ## CLOSE (R125) -/

/-- The queue has taken the CLOSE: none is pending, and a next-fill step that was due is taken (R125). -/
def State.closeTaken (s : State) : State := (s.modWater fun w => { w with pendingClose := none }).nextFill

/-- A VALVE_CMD CLOSE is offered; the pending CLOSE takes its address and channel until the queue takes it (R125). -/
def State.offerClose (s : State) (addr channel : Byte) : State :=
  let s := s.modWater fun w => { w with pendingClose := some ⟨addr, channel⟩ }
  if s.offerRoom then (s.takeCmd (.valveClose addr channel)).closeTaken else s.waitOffer .watering (.valveClose addr channel)

/-! ## The grant (R130) -/

/-- The addresses the Source Map holds with role VALVE, in ascending order (R130). -/
def State.valveAddrs (s : State) : List Byte := (s.sourceMap.filter (·.role = .valve)).map (·.addr)

/-- A WATERING grant (R130). -/
def State.grantWatering (s : State) (i : StringNo) (src : SourceSet) : State :=
  let s := s.modRound fun _ =>
    { state := .filling, string := some i, build := some (buildOf src), startMinute := s.minute,
      fillList := s.fillListFor i (buildOf src) }
  let s := s.modStr i fun r => { r with state := .watering }
  (s.valveAddrs.foldl (fun s a => s.takeHold a .manifold) s).nextFill

/-! ## Valve reports (R128, R134 to R142) -/

/-- The deduction of R128: the tank estimate falls, and the dispensed total of the cell with this binding rises. -/
def State.deduct (s : State) (addr channel : Byte) (volume : Nat) : State :=
  (s.modWater fun w => { w with tank := w.tank - volume }).mapStrings fun _ r =>
    r.mapCells fun _ c =>
      if c.binding = some ⟨addr, channel⟩ then { c with dispensed := satAdd Config.max16 c.dispensed volume } else c

/-- The re-check of an offered fill after a change of the tank figures (R134). -/
def State.recheckOffer (s : State) : State :=
  match s.water.round.fill with
  | none => s
  | some f =>
    if f.phase = .offered ∧ s.water.available < f.volume then
      (s.withdrawOpen.modRound fun r => { r with fill := none }).endRound ⟨.abnormal, .tank⟩ 1
    else s

/-- The report's address and channel are those of the outstanding fill (R135, R142). -/
def Round.answers (r : Round) (addr channel : Byte) : Option Fill :=
  match r.fill with
  | none => none
  | some f => if f.phase = .outstanding ∧ f.addr = addr ∧ f.channel = channel then some f else none

/-- A position is entered in the faulted list (R124). -/
def Round.fault (r : Round) (p : Position) (why : FaultReason) : Round := { r with faulted := r.faulted ++ [⟨p, why⟩] }

/-- A MORE report (R137): back to the tail of the list below the third attempt, NOT_FULL at it. -/
def Round.more (r : Round) (p : Position) : Round :=
  if r.attempts[p] < 3 then { r with fillList := r.fillList ++ [p] } else r.fault p .notFull

/-- The cancelled fill has finished, and the round ends with its recorded end (R142). -/
def State.finishCancelled (s : State) : State :=
  let e := s.water.round.ended.getD ⟨.abnormal, .cancelled⟩
  (s.modRound fun r => { r with fill := none, fillTimer := .stopped }).endRound e 1

/-- The fill timer expires while the round is FILLING (R139). -/
def State.fillExpired (s : State) (f : Fill) : State :=
  (s.modRound fun r => { (r.fault f.pos .noReport) with fill := none, fillTimer := .stopped }).offerClose f.addr f.channel

/-- A cancel of the FILLING round (R141). -/
def State.cancelRound (s : State) : State :=
  match s.water.round.fill with
  | none => s.endRound ⟨.abnormal, .cancelled⟩ 0
  | some f =>
    match f.phase with
    | .offered => (s.withdrawOpen.modRound fun r => { r with fill := none }).endRound ⟨.abnormal, .cancelled⟩ 1
    | .outstanding =>
      (s.modRound fun r => { r with state := .ending, ended := some ⟨.abnormal, .cancelled⟩ }).offerClose f.addr f.channel

/-- The part of a warm restart that WT makes (R148). -/
def State.restartWater (s : State) : State :=
  match s.water.round.state with
  | .idle => s
  | .ending =>
    let e := s.water.round.ended.getD ⟨.abnormal, .cancelled⟩
    (s.modRound fun r => { r with fill := none, fillTimer := .stopped }).endRoundWith e 1 0
  | .filling =>
    match s.water.round.fill with
    | none => s.endRoundWith ⟨.abnormal, .restart⟩ 0 0
    | some f =>
      match f.phase with
      | .offered =>
        (s.withdrawOpen.modRound fun r => { r with fill := none }).endRoundWith ⟨.abnormal, .restart⟩ 1 0
      | .outstanding =>
        ((s.offerClose f.addr f.channel).modRound fun r => { r with fill := none, fillTimer := .stopped }).endRoundWith
          ⟨.abnormal, .restart⟩ 1 0

end Sys2Proof.Machine
end

