-- ==== Sys2Proof/Machine/Requests.lean ====
section
/-! DEFINITION. The Request List and Arbiter (R62 to R81): raises, withdrawal, eligibility, the evaluation and its grants,
the hour tick and the retry hold. The start of a sweep (R41) stands here because a grant starts one. -/

namespace Sys2Proof.Machine

open Sys2Proof

/-! ## Sweeps (R41, R42) -/

/-- The owed list of a new sweep: the CELL_MONITOR addresses of the string, ascending, none asked (R41). -/
def State.monitorsOf (s : State) (i : StringNo) : List Owed :=
  (s.sourceMap.filter fun e => e.role = .cellMonitor && e.string = some i).map fun e => { addr := e.addr }

/-- The monitor is marked asked. -/
def markAsked (a : Byte) (l : List Owed) : List Owed := l.map fun o => if o.addr = a then { o with asked := true } else o

def Sweep.mapOwed (f : List Owed → List Owed) : Sweep → Sweep
  | .idle => .idle
  | .sweeping l t => .sweeping (f l) t

def Sweep.owed : Sweep → List Owed
  | .idle => []
  | .sweeping l _ => l

def Sweep.isSweeping : Sweep → Bool
  | .idle => false
  | .sweeping _ _ => true

/-- The queue has taken a SAMPLE_NOW: its monitor is asked (R41). -/
def State.noteAsked (s : State) (i : StringNo) (a : Byte) : State :=
  s.modStr i fun r => { r with sweep := r.sweep.mapOwed (markAsked a) }

/-- The sweep offers the SAMPLE_NOW of the next monitor not asked, until one waits or all are asked (R41). The fuel is the
length of the owed list. -/
def State.sweepAsk : Nat → StringNo → State → State
  | 0, _, s => s
  | n + 1, i, s =>
    match (s.str i).sweep.owed.find? (!·.asked) with
    | none => s
    | some o =>
      if s.offerRoom then sweepAsk n i ((s.takeCmd (.sampleNow o.addr)).noteAsked i o.addr)
      else s.waitOffer (.sweep i) (.sampleNow o.addr)

/-- The next offers of a sweep. -/
def State.sweepNext (s : State) (i : StringNo) : State := s.sweepAsk (s.str i).sweep.owed.length i

/-- A sweep starts (R41); with an empty owed list it completes at once. -/
def State.startSweep (s : State) (i : StringNo) : State :=
  match s.monitorsOf i with
  | [] => s.sweepComplete i
  | l => (s.modStr i fun r => { r with sweep := .sweeping l (.running s.site.sweepTimeout) }).sweepNext i

/-- EQ has entered BASELINE: a sweep starts unless one runs already (R41). -/
def State.baselineSweep (s : State) (i : StringNo) : State :=
  if (s.str i).sweep.isSweeping then s else s.startSweep i

/-! ## Raises and the list (R62, R63, R68, R69) -/

def SourceSet.insert (x : SourceSet) : Source → SourceSet
  | .management => { x with management := true }
  | .interval => { x with interval := true }
  | .spread => { x with spread := true }
  | .debt => { x with debt := true }
  | .level => { x with level := true }

/-- The entry is for this string and kind. -/
def Entry.isFor (e : Entry) (i : StringNo) (k : JobKind) : Bool := e.string = i && e.kind = k

/-- A raise over the list (R63): merged into the entry of the pair, or added at the tail. -/
def raiseInto (l : List Entry) (i : StringNo) (k : JobKind) (src : Source) (level now : Nat) : List Entry :=
  if l.any (·.isFor i k) then
    l.map fun e => if e.isFor i k then { e with sources := e.sources.insert src, level := max e.level level } else e
  else l ++ [{ string := i, kind := k, sources := ({} : SourceSet).insert src, level := level, arrival := now }]

/-- A raise, which is an evaluation trigger (R63). -/
def State.raise (s : State) (i : StringNo) (k : JobKind) (src : Source) (level : Nat) : State :=
  { s with requests := raiseInto s.requests i k src level s.second }.trigger

/-- An automatic raise at the string's configured level; none at level 0 (R63). -/
def State.autoRaise (s : State) (i : StringNo) (k : JobKind) (src : Source) : State :=
  if (s.str i).cfg.level = 0 then s else s.raise i k src (s.str i).cfg.level

/-- The entry of a pair leaves the list. -/
def State.dropEntry (s : State) (i : StringNo) (k : JobKind) : State :=
  { s with requests := s.requests.filter (!·.isFor i k) }

/-- Every entry of a string leaves the list (R69). -/
def State.dropString (s : State) (i : StringNo) : State := { s with requests := s.requests.filter (·.string ≠ i) }

/-- A source set of LEVEL alone (R68). -/
def onlyLevel : SourceSet := { level := true }

/-- A fitted position of the string has level state LOW. -/
def State.anyLow (s : State) (i : StringNo) : Bool :=
  allPositions.any fun p => s.fittedPos i p && (s.cell i p).level = .low

/-- The withdrawal check (R68). -/
def State.withdrawalCheck (s : State) (i : StringNo) : State :=
  if s.anyLow i then s
  else { s with requests := s.requests.filter fun e => !(e.isFor i .watering && e.sources = onlyLevel) }

/-! ## The checks of the hour tick (R65, R66) -/

def State.inRetryHold (s : State) (i : StringNo) : Bool := (s.str i).retryHold.isSome

/-- BASELINE, TRANSFER_OUT, EQUALISING, HELD or TRANSFER_BACK (R65). -/
def StringState.inBay : StringState → Bool
  | .baseline | .transferOut | .equalising | .held | .transferBack => true
  | _ => false

/-- The INTERVAL check of R65. -/
def State.intervalHolds (s : State) (i : StringNo) : Bool :=
  let r := s.str i
  r.cfg.interval ≠ 0 && r.cfg.interval ≤ r.age && !s.inRetryHold i && !r.state.inBay

/-- The SPREAD check of R65; an invalid spread is not above any trigger. -/
def State.spreadHolds (s : State) (i : StringNo) : Bool :=
  let t := (s.profile i).spreadTrigger
  (s.str i).state = .float && t ≠ 0 && !s.inRetryHold i &&
    match s.spreadOf i with
    | none => false
    | some w => t < w

/-- The debt reaches a threshold that is not 0 (R65, R66). -/
def State.debtReached (s : State) (i : StringNo) : Bool :=
  let r := s.str i
  r.cfg.threshold ≠ 0 && r.cfg.threshold ≤ s.debtOf i

/-- The DEBT check of R65. -/
def State.debtHolds (s : State) (i : StringNo) : Bool := s.debtReached i && (s.str i).state ≠ .watering

/-- The three checks for one string, in order (R65). -/
def State.tickString (s : State) (i : StringNo) : State :=
  if s.fitted i then
    let s := if s.intervalHolds i then s.autoRaise i .equalise .interval else s
    let s := if s.spreadHolds i then s.autoRaise i .equalise .spread else s
    if s.debtHolds i then s.autoRaise i .watering .debt else s
  else s

/-- The ages of the fitted strings advance (R64). -/
def State.advanceAges (s : State) : State :=
  s.mapStrings fun _ r => if r.cfg.cellCount ≠ 0 then { r with age := satInc r.age } else r

/-- RQ's work at an hour tick (R64, R65): the ages, the checks, and one evaluation, raised or not. -/
def State.hourTicked (s : State) : State := (allStrings.foldl State.tickString s.advanceAges).trigger

/-- The DEBT check at a SETTLING entry (R66). -/
def State.settlingCheck (s : State) (i : StringNo) : State :=
  if s.fitted i ∧ s.debtReached i then s.autoRaise i .watering .debt else s

/-! ## Eligibility (R73, R74, R77) -/

/-- The lower-numbered FREE bay in use (R76, R77). -/
def State.freeBayInUse (s : State) : Option BayNo :=
  if (s.bay 0).state = .free then some 0
  else if s.site.bays = 2 ∧ (s.bay 1).state = .free then some 1
  else none

/-- A fitted cell of the string has its OT qualifier set (R73). -/
def State.anyOt (s : State) (i : StringNo) : Bool :=
  allPositions.any fun p => s.fittedPos i p && (s.cell i p).ot.state

/-- Conditions 1 to 7 of R73. -/
def State.equaliseReady (s : State) (e : Entry) : Bool :=
  s.ceiling < e.level && (s.str e.string).state = .float && (s.str e.string).presence = .present && !s.anyOt e.string &&
    (!s.inRetryHold e.string || e.sources.management) && s.gas.state = .normal && s.site.charger ≠ 0

/-- R73: with a free bay in use, the bay, the limit and the current-reduced mark the grant would carry. -/
def State.equaliseGrant (s : State) (e : Entry) : Option (BayNo × Nat × Bool) :=
  if e.kind = .equalise ∧ s.equaliseReady e then
    match s.freeBayInUse, s.currentFor e.string with
    | some b, some (lim, red) => some (b, lim, red)
    | _, _ => none
  else none

/-- R74. -/
def State.wateringEligible (s : State) (e : Entry) : Bool :=
  e.kind = .watering && s.ceiling < e.level && (s.str e.string).state = .float && s.water.round.state = .idle &&
    match s.fillListFor e.string (buildOf e.sources) with
    | [] => false
    | p :: _ => (s.volumeOf e.string p : Int) ≤ s.water.available

/-- The keys of R76: higher level, then earlier arrival, then lower string number. -/
def Entry.before (a b : Entry) : Bool :=
  b.level < a.level || (a.level = b.level && (a.arrival < b.arrival || (a.arrival = b.arrival && a.string < b.string)))

/-- The first by the keys of R76. -/
def pick : List Entry → Option Entry
  | [] => none
  | e :: l => some (l.foldl (fun best x => if x.before best then x else best) e)

/-! ## Grants and the evaluation (R75 to R79, R87) -/

/-- An EQUALISE grant, as EQ carries it out (R87). The takes of the switch and the charger follow R151's ascending order
(DEDUCED, unsafe: notes/assumptions/30.md). -/
def State.grantEqualise (s : State) (i : StringNo) (b : BayNo) (limit : Nat) (reduced : Bool) : State :=
  let s := s.setBay b { state := .busy, string := some i, limit := limit, reduced := reduced }
  let s := s.modStr i fun r => { r with bay := some b, state := .baseline, jobCharge := 0, startMinute := s.minute }
  let s := s.takeTwo ⟨(s.str i).cfg.switch, .switch i⟩ ⟨s.site.charger, .charger⟩
  (s.baselineSweep i).noteBayEntry

/-- One pick and grant of the bay pass (R76). -/
def State.bayPick (s : State) : State :=
  match pick (s.requests.filter fun e => (s.equaliseGrant e).isSome) with
  | none => s
  | some e =>
    match s.equaliseGrant e with
    | none => s
    | some (b, lim, red) => (s.dropEntry e.string .equalise).grantEqualise e.string b lim red

/-- The manifold pass (R78). -/
def State.manifoldPick (s : State) : State :=
  match pick (s.requests.filter s.wateringEligible) with
  | none => s
  | some e => (s.dropEntry e.string .watering).grantWatering e.string e.sources

/-- An evaluation (R75 to R78): at most two picks of the bay pass, one for each bay in use, then the manifold pass. -/
def State.evaluate (s : State) : State := s.bayPick.bayPick.manifoldPick

/-- The evaluation that an action's triggers ask for, made once at the end of the action (R75; DEDUCED, unsafe:
notes/assumptions/15.md). -/
def State.settle (s : State) : State := if s.evalDue then { s with evalDue := false }.evaluate else s

/-! ## Retry holds (R81) -/

/-- The retry hold of a string has reached its end minute (R81). -/
def State.retryDue (s : State) (i : StringNo) : Bool :=
  match (s.str i).retryHold with
  | none => false
  | some m => m ≤ s.minute

end Sys2Proof.Machine
end

