-- ==== Sys2Proof/Machine/Gas.lean ====
section
/-! DEFINITION. The Gas Supervisor's gas state: the sensor, the qualifier, the lost timer, the trip input and CLEAR_TRIP
(R112 to R119, R123). -/

namespace Sys2Proof.Machine

open Sys2Proof

/-- The gas state and reason take new values. A change of the state is delivered to EQ, to RQ (an evaluation trigger), to
the fan control and to STAT, in this order (R119; DESIGN CHOICE, unsafe: notes/assumptions/18.md); a change of reason alone is not (R112). -/
def State.setGas (s : State) (st : GasState) (why : GasReason) : State :=
  let old := s.gas.state
  let need := s.gas.need
  let s := s.modGas fun g => { g with state := st, reason := why }
  if st = old then s
  else ((s.gasChangeEq old).trigger.fanFollow need).modGas Gas.driveStat

/-- NORMAL becomes HOLD with this reason; HOLD takes the reason; TRIP stays (R113, R116). -/
def State.holdGas (s : State) (why : GasReason) : State :=
  match s.gas.state with
  | .trip => s
  | _ => s.setGas .hold why

/-- HOLD becomes NORMAL; NORMAL and TRIP stay (R113, R115). -/
def State.freeGas (s : State) : State :=
  match s.gas.state with
  | .hold => s.setGas .normal .none
  | _ => s

/-- The restart of the lost timer at four times the sample timeout (R114). -/
def State.lostLength (s : State) : Timer := .running (4 * s.site.sampleTimeout)

/-- The gas qualifier takes a concentration (R114): HIGH, LOW, or neither, which breaks a run. -/
def Qualifier.takeGas (q : Qualifier) (hold release c : Nat) : Qualifier :=
  if hold ≤ c then q.advance true else if c ≤ release then q.advance false else { q with agree := 0 }

/-- A flip of the gas qualifier to this state acts on the gas state (R115). -/
def State.gasFlip (s : State) (high : Bool) : State :=
  if high then (if s.gas.state = .normal then s.setGas .hold .concentration else s) else s.freeGas

/-- A GAS_REPORT handed on by Intake (R114). -/
def State.gasReported (s : State) (src : Byte) (c : Nat) (fault : Bool) : State :=
  if src ≠ s.site.gasSensor ∨ s.site.gasSensor = 0 ∨ fault then s
  else
    let s := s.modGas fun g => { g with lost := s.lostLength }
    let s :=
      if s.gas.sensor = .lost then
        let s := s.modGas fun g => { g with sensor := .live, qualifier := { state := true } }
        if s.gas.state = .hold then s.setGas .hold .concentration else s
      else s
    let was := s.gas.qualifier.state
    let s := s.modGas fun g => { g with qualifier := g.qualifier.takeGas s.site.holdThreshold s.site.releaseThreshold c }
    if s.gas.qualifier.state = was then s else s.gasFlip s.gas.qualifier.state

/-- The lost timer expires (R116). -/
def State.sensorSilent (s : State) : State :=
  (s.modGas fun g => { g with sensor := .lost, lost := .stopped, qualifier := { state := true } }).holdGas .sensorLost

/-- A changed gas sensor address (R113). The record already holds the new address. -/
def State.sensorMoved (s : State) : State :=
  if s.site.gasSensor = 0 then (s.modGas fun g => { g with sensor := .none, lost := .stopped, qualifier := {} }).freeGas
  else s.sensorSilent

/-- One sample of the GASTRIP# pin through the trip filter (R117); a flip to LOW gives TRIP from any gas state. -/
def State.tripSample (s : State) (level : PinLevel) : State :=
  if level = s.gas.filter then s.modGas fun g => { g with filterAgree := 0 }
  else if s.gas.filterAgree + 1 = 3 then
    let s := s.modGas fun g => { g with filter := level, filterAgree := 0 }
    if level = .low then s.setGas .trip .tripInput else s
  else s.modGas fun g => { g with filterAgree := g.filterAgree + 1 }

/-- The gas state and reason an accepted CLEAR_TRIP leaves (R118). -/
def Gas.afterTrip (g : Gas) : GasState × GasReason :=
  match g.sensor, g.qualifier.state with
  | .none, _ => (.normal, .none)
  | .live, false => (.normal, .none)
  | .live, true => (.hold, .concentration)
  | .lost, _ => (.hold, .sensorLost)

/-- CLEAR_TRIP is accepted: the gas state is TRIP and the trip filter is not LOW (R118). -/
def Gas.clearable (g : Gas) : Bool := g.state = .trip && g.filter = .high

/-- The part of a warm restart that GS makes (R123). -/
def State.restartGas (s : State) : State :=
  s.modGas fun g =>
    { g with qualifier := { g.qualifier with agree := 0 }, filterAgree := 0,
             lost := if g.sensor = .live then s.lostLength else .stopped }

end Sys2Proof.Machine
end

