-- ==== Sys2Proof/Machine/Intake.lean ====
section
/-! DEFINITION. Sample Intake: the reports written into the tables or handed to their owners, the presence census and the
end of a sweep (R21 to R45), with the acts of EQ, WT and GS on the reports handed to them (R96, R108, R128 to R142). -/

namespace Sys2Proof.Machine

open Sys2Proof

/-! ## Cell reports (R28, R31 to R33) -/

/-- A sensor-fault sample (R28). -/
def sampleIsFault (c : CellSample) : Bool :=
  3000 < c.voltage.toNat || c.tHalf.toInt < -80 || 170 < c.tHalf.toInt || statusFault c.status

/-- A cell takes a sample (R28): the values always, the fault flag as the sample says, and, for a good sample of a fitted
position, the OT qualifier and, while the string is EQUALISING or HELD, the OV qualifier. -/
def Cell.takeSample (c : Cell) (x : CellSample) (now : Nat) (fitted charging : Bool) (p : Profile) : Cell :=
  let c := { c with voltage := x.voltage.toNat, tHalf := x.tHalf.toInt, sampleSecond := some now, sampleFault := sampleIsFault x }
  if sampleIsFault x || !fitted then c
  else
    { c with ov := if charging then c.ov.advance (p.ovLimit ≤ x.voltage.toNat) else c.ov,
             ot := c.ot.advance ((p.otLimit : Int) ≤ x.tHalf.toInt) }

/-- The string is EQUALISING or HELD (R32, R37). -/
def StringState.charging : StringState → Bool
  | .equalising | .held => true
  | _ => false

/-- One sample applied to a position of a string (R28). A position above 31 does not arise (R21) and takes nothing. -/
def State.applySample (s : State) (i : StringNo) (pos : Nat) (x : CellSample) : State :=
  match indexOf? 32 pos with
  | none => s
  | some p => s.modCell i p fun c => c.takeSample x s.second (s.fittedPos i p) (s.str i).state.charging (s.profile i)

/-- The samples of a report, in order, from a first position (R28). -/
def State.applySamples (s : State) (i : StringNo) : Nat → List CellSample → State
  | _, [] => s
  | pos, x :: l => (s.applySample i pos x).applySamples i (pos + 1) l

/-- The events of one cell between two pictures of it: an OV flip to set goes to EQ; an OT flip goes to EQ and RQ. -/
def State.cellEvents (i : StringNo) (p : Position) (old s : State) : State :=
  let was := old.cell i p
  let now := s.cell i p
  let s := if !was.ov.state && now.ov.state && (s.str i).state.charging then s.endStringJob i .cellOv else s
  let s := if !was.ot.state && now.ot.state then s.endStringJob i .thermal else s
  if was.ot.state && !now.ot.state then s.trigger else s

/-- The sweep of a string completes: its timer stops, it is IDLE, and EQ is told (R42). -/
def State.completeSweep (s : State) (i : StringNo) : State :=
  (s.modStr i fun r => { r with sweep := .idle }).sweepComplete i

/-- An owed and asked monitor has reported (R42). -/
def State.answerSweep (s : State) (i : StringNo) (src : Byte) : State :=
  match (s.str i).sweep with
  | .idle => s
  | .sweeping l t =>
    if l.any fun o => o.addr = src && o.asked then
      match l.filter (·.addr ≠ src) with
      | [] => s.completeSweep i
      | l' => s.modStr i fun r => { r with sweep := .sweeping l' t }
    else s

/-- A CELL_REPORT taken in (R28, R42): every sample is written, then the events are delivered in ascending position, then
the report may answer a sweep. DESIGN CHOICE, unsafe (notes/assumptions/16.md): the order of the events. -/
def State.cellReported (s : State) (e : MapEntry) (samples : List CellSample) : State :=
  match e.string, e.block with
  | some i, some (first, count) =>
    let applied := s.applySamples i first (samples.take count)
    let told := allPositions.foldl (fun t p => State.cellEvents i p s t) applied
    told.answerSweep i e.addr
  | _, _ => s

/-- The sweep timer of a string expires (R43): the waiting SAMPLE_NOW is withdrawn, the cells of the owed monitors are
flagged, and the sweep completes. -/
def State.sweepExpired (s : State) (i : StringNo) : State :=
  let blocks := (s.str i).sweep.owed.filterMap fun o => (s.mapped o.addr).bind (·.block)
  let flagged (p : Position) : Bool := blocks.any fun b => b.1 ≤ p.val && p.val < b.1 + b.2
  let s := s.withdraw (.sweep i)
  (s.modStr i fun r => r.mapCells fun p c => if flagged p then { c with sampleFault := true } else c).completeSweep i

/-! ## Level reports (R34, R35, R67, R68) -/

/-- A LEVEL OK event reaches RQ (R68). -/
def State.levelOkEvent (s : State) (i : StringNo) : State := s.withdrawalCheck i

/-- A flip of a LEVEL qualifier is delivered to RQ (R67, R68). -/
def State.levelFlip (s : State) (i : StringNo) (low : Bool) : State :=
  if low then s.autoRaise i .watering .level else s.levelOkEvent i

/-- The level state that matches a LEVEL qualifier's state. -/
def levelOfQ (low : Bool) : LevelState := if low then .low else .ok

/-- A LOW or OK reading of a cell (R34): the qualifier advances; a flip or an agreement may move the level state. -/
def Cell.takeLevel (c : Cell) (low : Bool) : Cell :=
  let c' := { c with levelQ := c.levelQ.advance low }
  if c.levelQ.flips low then { c' with level := levelOfQ low }
  else if low = c.levelQ.state ∧ (c.level = .unknown ∨ c.level = .fault) then { c' with level := levelOfQ low }
  else c'

/-- A LOW or OK reading of a fitted position, with its events (R34). -/
def State.levelReading (s : State) (i : StringNo) (p : Position) (low : Bool) : State :=
  let was := s.cell i p
  let s := s.modCell i p (·.takeLevel low)
  let s := if was.levelQ.flips low then s.levelFlip i low else s
  if was.level = .fault ∧ (s.cell i p).level ≠ .fault then s.trigger else s

/-- A LEVEL_REPORT taken in (R34). -/
def State.levelReported (s : State) (e : MapEntry) (position : Nat) (code : LevelCode) : State :=
  match e.string, indexOf? 32 position with
  | some i, some p =>
    if s.fittedPos i p then
      match code with
      | .probeFault => s.modCell i p fun c => { c with level := .fault, levelQ := { c.levelQ with agree := 0 } }
      | .ok => s.levelReading i p false
      | .low => s.levelReading i p true
    else s
  | _, _ => s

/-- The FULL action of R35. -/
def State.fullAction (s : State) (i : StringNo) (p : Position) : State :=
  if s.fittedPos i p then
    let wasLow := (s.cell i p).levelQ.state
    let s := s.modCell i p fun c => { c with level := .ok, levelQ := {} }
    if wasLow then s.levelOkEvent i else s
  else s

/-! ## Presence (R39, R40) -/

/-- A presence change posts its result and triggers an evaluation (R39). -/
def State.setPresence (s : State) (i : StringNo) (p : Presence) : State :=
  let s := s.modStr i fun r => { r with presence := p }
  (s.post
    { string := i, cls := .changed, cause := .none, startMinute := s.minute, elapsed := 0, part := .presence p }).trigger

/-- An applied report reaches the census (R39). -/
def State.heard (s : State) (i : StringNo) : State :=
  if (s.str i).presence = .present then s else s.setPresence i .present

/-- The census of an UNKNOWN string has run 60 s with no applied report (R39). -/
def State.censusDue (s : State) (i : StringNo) : Bool :=
  s.fitted i && (s.str i).presence = .unknown &&
    match (s.str i).censusStart with
    | none => false
    | some t => t + Config.censusSeconds ≤ s.second

/-- A PRESENT string has been silent for more than four times the sample timeout in force (R39, R178). -/
def State.silenceDue (s : State) (i : StringNo) : Bool :=
  s.fitted i && (s.str i).presence = .present &&
    match (s.str i).lastArrival with
    | none => false
    | some t => 4 * s.silenceTimeout < s.second - t

/-- The census of a string restarts at this second (R40). -/
def StringRec.restartCensus (r : StringRec) (start : Nat) : StringRec :=
  { r with presence := .unknown, censusStart := some start, lastArrival := none }

/-! ## String reports and charge (R36, R37) -/

/-- The interval Δt of R37. -/
def State.interval (s : State) (i : StringNo) : Nat :=
  match (s.str i).lastArrival with
  | none => 0
  | some t => min (s.second - t) s.site.sampleTimeout

/-- The charge of an applied report (R37): Q, and the job charge while EQUALISING or HELD. -/
def StringRec.integrate (r : StringRec) (current : Int) (dt : Nat) : StringRec :=
  if 0 < current then
    let add := current.toNat * dt
    { r with q := satAdd Config.maxCharge r.q add,
             jobCharge := if r.state.charging then satAdd Config.maxCharge r.jobCharge add else r.jobCharge }
  else r

/-- A STRING_REPORT taken in (R36). -/
def State.stringReported (s : State) (e : MapEntry) (received : Int) (voltage : Nat) : State :=
  match e.string with
  | none => s
  | some i =>
    if s.fitted i ∧ (s.str i).cfg.sensor = e.addr then
      let current := clampInt (-Config.maxCurrent) Config.maxCurrent received
      let s := s.modStr i fun r => r.integrate current (s.interval i)
      let s := s.modStr i fun r => { r with lastArrival := some s.second, lastCurrent := current, lastVoltage := voltage }
      (s.heard i).sampleArrived i current
    else s

/-! ## Reports handed to EQ (R96, R108) -/

/-- The transfer back is confirmed (R103, R106). -/
def State.confirmBack (s : State) (b : BayNo) (i : StringNo) : State :=
  let settle := (s.profile i).settle * 60
  let s := s.modBay b fun r => { r with confirm := .stopped }
  let s := (s.postEqualise b i false (s.elapsed (s.str i).startMinute)).freeBay b i
  ((s.settlingCheck i).startSettle i settle).noteBayExit

/-- A SWITCH_REPORT handed to EQ (R108). -/
def State.switchReported (s : State) (e : MapEntry) (position : SwitchCode) : State :=
  match e.string with
  | none => s
  | some i =>
    if (s.str i).cfg.switch = e.addr then
      match (s.str i).bay with
      | none => s
      | some b =>
        match (s.str i).state, position with
        | .baseline, .fault => s.switchFault b i
        | .transferOut, .fault => s.switchFault b i
        | .equalising, .fault => s.switchFault b i
        | .held, .fault => s.switchFault b i
        | .transferBack, .fault => s.switchFault b i
        | .transferOut, .equalise => if (s.bay b).confirm.isRunning then s.confirmOut b i else s
        | .transferBack, .float => if (s.bay b).confirm.isRunning then s.confirmBack b i else s
        | _, _ => s
    else s

/-- A CHARGER_REPORT handed to EQ (R84, R96). -/
def State.chargerReported (s : State) (src : Byte) (output : Nat) (state : ChargerCode) : State :=
  match indexOf? 2 output with
  | none => s
  | some b =>
    if src = s.site.charger ∧ state = .fault ∧ (s.bay b).state = .busy then s.endJob b ⟨.abnormal, .charger⟩ else s

/-! ## Reports handed to WT (R128, R134 to R142) -/

/-- A report that matches the present fill of a FILLING round (R135 to R138). -/
def State.fillReported (s : State) (f : Fill) (code : ValveCode) (volume : Nat) : State :=
  let s := s.modRound fun r => { r with fillTimer := .stopped, total := satAdd Config.max16 r.total volume, fill := none }
  match s.water.round.string with
  | none => s.nextFill
  | some i =>
    let s := s.modCell i f.pos fun c => { c with lastFill := some code }
    let s :=
      match code with
      | .full => (s.modRound fun r => { r with filled := r.filled + 1 }).fullAction i f.pos
      | .more => s.modRound (·.more f.pos)
      | .fault => (s.modCell i f.pos fun c => { c with valveFault := true }).modRound (·.fault f.pos .valveFault)
    s.nextFill

/-- A VALVE_REPORT handed to WT: the deduction first, then the match with the fill of a FILLING or an ENDING round, or the
late report, with the re-check of an offered fill when the volume is not 0 (R128, R134, R135, R140, R142). -/
def State.valveReported (s : State) (src channel : Byte) (code : ValveCode) (volume : Nat) : State :=
  if 7 < channel.toNat then s
  else
    let s := s.deduct src channel volume
    match s.water.round.state, s.water.round.answers src channel with
    | .filling, some f => s.fillReported f code volume
    | .ending, some _ => s.finishCancelled
    | _, _ => if volume = 0 then s else s.recheckOffer

/-! ## Classification (R23) and the handling of a report -/

/-- What a report that is taken in does (R23), before its frame goes on. -/
def State.handleReport (s : State) (e : MapEntry) : Report → State
  | .cell l => s.cellReported e l
  | .string c v => s.stringReported e c v
  | .level p c => s.levelReported e p c
  | .valve ch c v => s.valveReported e.addr ch c v
  | .switch p => s.switchReported e p
  | .charger o st _ _ => s.chargerReported e.addr o st
  | .gas c f => s.gasReported e.addr c f

/-- The report of a frame that Intake takes in (R23): the source is mapped, the KIND is its role's, and the payload is
well-formed. -/
def State.takesIn (s : State) (f : Frame) : Option (MapEntry × Report) :=
  match s.mapped f.src with
  | none => none
  | some e => if roleKind e.role = some f.kind then (parseReport f.kind f.payload).map (e, ·) else none

end Sys2Proof.Machine
end

