-- ==== Sys2Proof/Machine/Bodies.lean ====
section
/-! DEFINITION. The bodies of the tables and the data of the replies, read and written (R18 to R20, R61, R165, R170,
R174, R181, R183). -/

namespace Sys2Proof.Machine

open Sys2Proof

/-! ## The Site record (R19, R178) -/

/-- The CONFIG body of the Site record, 23 bytes (R19). -/
def siteBody (x : Site) : List Byte :=
  beBytes 1 x.bays ++ [x.charger] ++ beBytes 2 x.budget ++ [x.gasSensor, x.fan] ++ beBytes 2 x.holdThreshold ++
  beBytes 2 x.releaseThreshold ++ beBytes 1 x.holdLimit ++ beBytes 1 x.runOn ++ beBytes 2 x.fillVolume ++
  beBytes 2 x.pullIn ++ beBytes 1 x.duty ++ beBytes 1 x.maxOpen ++ beBytes 1 x.sampleTimeout ++ beBytes 2 x.staleAge ++
  beBytes 1 x.confirmTime ++ beBytes 1 x.sweepTimeout

/-- The Site record a 23-byte body carries (R19). -/
def readSite (l : List Byte) : Site :=
  { bays := natField l 0 1, charger := byteField l 1, budget := natField l 2 2, gasSensor := byteField l 4,
    fan := byteField l 5, holdThreshold := natField l 6 2, releaseThreshold := natField l 8 2, holdLimit := natField l 10 1,
    runOn := natField l 11 1, fillVolume := natField l 12 2, pullIn := natField l 14 2, duty := natField l 16 1,
    maxOpen := natField l 17 1, sampleTimeout := natField l 18 1, staleAge := natField l 19 2,
    confirmTime := natField l 21 1, sweepTimeout := natField l 22 1 }

/-- The ranges of the Site record (R178, 10.5). -/
def Site.inRange (x : Site) : Bool :=
  Machine.inRange 1 2 x.bays && Machine.inRange 0 4000 x.budget && Machine.inRange 50 1000 x.holdThreshold &&
  x.releaseThreshold < x.holdThreshold && Machine.inRange 10 240 x.holdLimit && Machine.inRange 0 120 x.runOn &&
  Machine.inRange 10 2000 x.fillVolume && Machine.inRange 50 2000 x.pullIn && Machine.inRange 10 100 x.duty &&
  Machine.inRange 1 120 x.maxOpen && Machine.inRange 5 120 x.sampleTimeout && Machine.inRange 10 600 x.staleAge &&
  Machine.inRange 2 60 x.confirmTime && Machine.inRange 1 30 x.sweepTimeout

/-! ## Profiles (R19, R180) -/

/-- The CONFIG body of a Profile, 29 bytes (R19). -/
def profileBody (x : Profile) : List Byte :=
  beBytes 2 x.vEq ++ beBytes 2 x.floatV ++ beBytes 2 x.k ++ beBytes 2 x.clampMin ++ beBytes 2 x.clampMax ++
  beBytes 1 x.rate ++ beBytes 2 x.maxDuration ++ beBytes 1 x.window ++ beBytes 2 x.tolerance ++
  beBytes 1 x.plateauRequired ++ beBytes 2 x.spreadLimit ++ beBytes 2 x.spreadTrigger ++ beBytes 2 x.ovLimit ++
  beBytes 1 x.otLimit ++ beBytes 2 x.gassing ++ beBytes 2 x.settle ++ beBytes 1 x.retryDelay

/-- The Profile a 29-byte body carries (R19). -/
def readProfile (l : List Byte) : Profile :=
  { vEq := natField l 0 2, floatV := natField l 2 2, k := natField l 4 2, clampMin := natField l 6 2,
    clampMax := natField l 8 2, rate := natField l 10 1, maxDuration := natField l 11 2, window := natField l 13 1,
    tolerance := natField l 14 2, plateauRequired := natField l 16 1, spreadLimit := natField l 17 2,
    spreadTrigger := natField l 19 2, ovLimit := natField l 21 2, otLimit := natField l 23 1, gassing := natField l 24 2,
    settle := natField l 26 2, retryDelay := natField l 28 1 }

/-- The ranges of a Profile, and the limits between its fields (R180, 10.5). -/
def Profile.inRange (x : Profile) : Bool :=
  Machine.inRange 2200 2600 x.vEq && Machine.inRange 2150 2350 x.floatV && Machine.inRange 0 6000 x.k &&
  Machine.inRange 2100 2700 x.clampMin && Machine.inRange 2100 2700 x.clampMax && x.clampMin ≤ x.clampMax &&
  Machine.inRange 10 200 x.rate && Machine.inRange 60 1440 x.maxDuration && Machine.inRange 5 60 x.window &&
  x.window ≤ x.maxDuration && Machine.inRange 10 10000 x.tolerance && Machine.inRange 2 8 x.plateauRequired &&
  Machine.inRange 10 300 x.spreadLimit && (x.spreadTrigger = 0 || Machine.inRange 20 500 x.spreadTrigger) &&
  Machine.inRange 2300 2900 x.ovLimit && x.clampMax < x.ovLimit && Machine.inRange 60 130 x.otLimit &&
  Machine.inRange 0 1000 x.gassing && Machine.inRange 0 480 x.settle && Machine.inRange 1 168 x.retryDelay

/-! ## The String Table (R19, R179) -/

/-- The CONFIG body of a String Table record, 13 bytes (R19). -/
def stringBody (x : StringConfig) : List Byte :=
  beBytes 1 x.cellCount ++ beBytes 2 x.capacity ++ beBytes 1 x.profile.val ++ beBytes 1 x.level ++ beBytes 2 x.interval ++
  beBytes 4 x.threshold ++ [x.switch, x.sensor]

/-- The ranges of a String Table configuration, judged on the 13-byte body (R179). -/
def stringBodyInRange (l : List Byte) : Bool :=
  Machine.inRange 0 32 (natField l 0 1) && Machine.inRange 10 3000 (natField l 1 2) && natField l 3 1 ≤ 7 &&
  natField l 4 1 ≤ 7 && (natField l 5 2 = 0 || Machine.inRange 24 8760 (natField l 5 2)) &&
  (natField l 7 4 = 0 || Machine.inRange 1000 200000 (natField l 7 4))

/-- The String Table configuration a body in range carries (R19). -/
def readString (l : List Byte) : StringConfig :=
  { cellCount := natField l 0 1, capacity := natField l 1 2, profile := Fin.ofNat 8 (natField l 3 1),
    level := natField l 4 1, interval := natField l 5 2, threshold := natField l 7 4, switch := byteField l 11,
    sensor := byteField l 12 }

/-- An optional bay number: FFh when absent (R19). -/
def bayBytes (b : Option BayNo) : List Byte := optBytes 1 0xFF (b.map (·.val))

/-- The RUN body of a String Table record, 33 bytes (R19, R181). -/
def stringRun (r : StringRec) : List Byte :=
  beBytes 1 (stringStateCode r.state) ++ beBytes 1 (presenceCode r.presence) ++ bayBytes r.bay ++ beBytes 5 r.q ++
  beBytes 2 r.age ++ optBytes 4 0xFFFFFFFF r.retryHold ++ optBytes 4 0xFFFFFFFF r.lastArrival ++
  beSigned 4 r.lastCurrent ++ beBytes 2 r.lastVoltage ++ beBytes 5 r.jobCharge ++ beBytes 4 r.startMinute

/-! ## The Cell Table (R19, R27) -/

/-- The CONFIG body of a Cell Table record, 7 bytes (R19). -/
def cellBody (c : Cell) : List Byte :=
  (match c.binding with
   | none => [0x00, 0x00]
   | some b => [b.addr, b.channel]) ++
  optBytes 2 0 c.override.volume ++ optBytes 1 0 c.override.maxOpen ++ optBytes 1 0 c.override.duty ++
  [if c.valveFault then 0x01 else 0x00]

/-- An override field: 0 inherits (R19). -/
def overrideField (n : Nat) : Option Nat := if n = 0 then none else some n

/-- The fill override a 7-byte body carries (R19). -/
def readOverride (l : List Byte) : FillOverride :=
  { volume := overrideField (natField l 2 2), maxOpen := overrideField (natField l 4 1), duty := overrideField (natField l 5 1) }

/-- The valve binding a 7-byte body carries (R19). -/
def readBinding (l : List Byte) : Option Binding :=
  if byteField l 0 = 0x00 then none else some ⟨byteField l 0, byteField l 1⟩

/-- The ranges of a Cell Table configuration, judged on the 7-byte body (R27). -/
def cellBodyInRange (l : List Byte) : Bool :=
  natField l 1 1 ≤ 7 && (natField l 2 2 = 0 || Machine.inRange 10 2000 (natField l 2 2)) &&
  (natField l 4 1 = 0 || Machine.inRange 1 120 (natField l 4 1)) &&
  (natField l 5 1 = 0 || Machine.inRange 10 100 (natField l 5 1)) &&
  (natField l 0 1 ≠ 0 || natField l 1 1 = 0) && natField l 6 1 ≤ 1

/-- One byte for a flag. -/
def flagByte (b : Bool) : Byte := if b then 0x01 else 0x00

/-- A qualifier's state and agree count (R19). -/
def qualifierBytes (q : Qualifier) : List Byte := [flagByte q.state] ++ beBytes 1 q.agree

/-- The RUN body of a Cell Table record, 18 bytes (R19, R181). -/
def cellRun (c : Cell) : List Byte :=
  beBytes 2 c.voltage ++ beSigned 1 c.tHalf ++ optBytes 4 0xFFFFFFFF c.sampleSecond ++ [flagByte c.sampleFault] ++
  qualifierBytes c.ov ++ qualifierBytes c.ot ++ qualifierBytes c.levelQ ++ beBytes 1 (levelStateCode c.level) ++
  [match c.lastFill with
   | none => 0xFF
   | some v => valveCodeByte v] ++ beBytes 2 c.dispensed

/-! ## The Source Map (R19, R21, R22) -/

/-- The body of a Source Map entry, 5 bytes; an address with no entry reads as role 00h with the absent markers (R19). -/
def mapBody : Option MapEntry → List Byte
  | none => [0x00, 0xFF, 0xFF, 0x00, 0x00]
  | some e =>
    beBytes 1 (roleCode e.role) ++ optBytes 1 0xFF (e.string.map (·.val)) ++ optBytes 1 0xFF (e.block.map (·.1)) ++
    optBytes 1 0x00 (e.block.map (·.2)) ++ [if e.pass then 0x00 else 0x01]

/-- The roles that name a string (R21). -/
def Role.hasString : Role → Bool
  | .cellMonitor | .stringSensor | .switch | .levelProbe => true
  | _ => false

/-- The entry a 5-byte body writes at an address, when every field is in range and present or absent as the role asks
(R21, R22); the role code is 01h to 08h. -/
def readEntry (addr : Byte) (l : List Byte) : Option MapEntry :=
  match roleOf (natField l 0 1) with
  | none => none
  | some role =>
    let action := natField l 4 1
    let string := indexOf? 8 (natField l 1 1)
    let first := natField l 2 1
    let count := natField l 3 1
    let stringOk := if role.hasString then string.isSome else natField l 1 1 = 0xFF
    let blockOk :=
      if role = .cellMonitor then first ≤ 31 ∧ 1 ≤ count ∧ count ≤ 4 ∧ first + count ≤ 32 else first = 0xFF ∧ count = 0
    if stringOk ∧ blockOk ∧ action ≤ 1 then
      some { addr := addr, role := role, string := if role.hasString then string else none,
             block := if role = .cellMonitor then some (first, count) else none, pass := action = 0 }
    else none

/-- The fields beside the role of a body that deletes are in the ranges of R21, or absent (R22, R176). -/
def deletionInRange (l : List Byte) : Bool :=
  let string := natField l 1 1
  let first := natField l 2 1
  let count := natField l 3 1
  (string ≤ 7 || string = 0xFF) && (first ≤ 31 || first = 0xFF) && count ≤ 4 && natField l 4 1 ≤ 1 &&
    (first = 0xFF || count = 0 || first + count ≤ 32)

/-! ## Results (R20, R61, R165) -/

/-- The positions of the faulted list with this reason, bit n for position n (R20). -/
def faultSet (l : List Faulted) (why : FaultReason) : Nat :=
  l.foldl (fun a f => if f.reason = why then a ||| 2 ^ f.pos.val else a) 0

/-- The kind code of a result (R20). -/
def resultKind : ResultPart → Nat
  | .equalise .. => 0
  | .watering .. => 1
  | .presence _ => 2

/-- The part of a result record (R20). -/
def partBytes : ResultPart → List Byte
  | .equalise sp lim charge s0 s1 peak n =>
    beBytes 2 sp ++ beBytes 2 lim ++ beBytes 4 charge ++ optBytes 2 0xFFFF s0 ++ optBytes 2 0xFFFF s1 ++
    beSigned 1 (peak.getD (-128)) ++ beBytes 1 n
  | .watering filled ml missed faults =>
    beBytes 1 filled ++ beBytes 2 ml ++ beBytes 1 missed ++ beBytes 4 (faultSet faults .notFull) ++
    beBytes 4 (faultSet faults .valveFault) ++ beBytes 4 (faultSet faults .noReport)
  | .presence p => beBytes 1 (presenceCode p)

/-- The flags of a result: gap, current reduced, isolated (R20). -/
def resultFlags (r : Result) : Nat :=
  (if r.gap then 1 else 0) + (if r.reduced then 2 else 0) + (if r.isolated then 4 else 0)

/-- A result record as FETCH_RESULT carries it (R20). -/
def resultBytes (r : Result) : List Byte :=
  beBytes 1 (resultKind r.part) ++ beBytes 1 r.string.val ++ beBytes 1 (classCode r.cls) ++ beBytes 1 (causeCode r.cause) ++
  beBytes 1 (resultFlags r) ++ beBytes 4 r.startMinute ++ beBytes 2 r.elapsed ++ partBytes r.part

/-! ## Snapshots (R20, R170) -/

/-- The values of a snapshot now (R170). -/
def State.snapshotOf (s : State) (i : StringNo) : Snapshot :=
  let r := s.str i
  let bay := r.bay.map s.bay
  { string := i, state := r.state, bay := r.bay,
    setpoint := match bay with
      | some b => if b.state = .busy then b.setpoint else 0
      | none => 0,
    limit := match bay with
      | some b => b.limit / 100
      | none => 0,
    elapsed :=
      if r.bay.isSome then s.elapsed r.startMinute
      else if r.state = .watering then s.elapsed s.water.round.startMinute else 0,
    plateau := match bay with
      | some b => b.plateau
      | none => 0,
    prevMean := bay.bind (·.prevMean), charge := centiAh r.jobCharge, spread := s.spreadOf i, mean := s.meanOf i,
    debt := s.debtOf i, minute := s.minute }

/-- A snapshot as READ_SNAPSHOT carries it, 30 bytes (R20). -/
def snapshotBytes (live : Bool) (x : Snapshot) : List Byte :=
  beBytes 1 x.string.val ++ [flagByte live] ++ beBytes 1 (stringStateCode x.state) ++ bayBytes x.bay ++
  beBytes 2 x.setpoint ++ beBytes 2 x.limit ++ beBytes 2 x.elapsed ++ beBytes 1 x.plateau ++
  (match x.prevMean with
   | none => beBytes 4 0x80000000
   | some m => beSigned 4 m) ++ beBytes 4 x.charge ++
  optBytes 2 0xFFFF x.spread ++ beSigned 1 x.mean ++ beBytes 4 x.debt ++ beBytes 4 x.minute

/-! ## Surveys (R172 to R174) -/

/-- The criteria of a survey (R173). -/
inductive Criterion where
  | voltAtLeast
  | voltAtMost
  | voltOffMean
  | tempAtLeast
  | levelLow
  | valveFault
deriving DecidableEq, Repr

def criterionOf (n : Nat) : Option Criterion :=
  match n with
  | 0 => some .voltAtLeast
  | 1 => some .voltAtMost
  | 2 => some .voltOffMean
  | 3 => some .tempAtLeast
  | 4 => some .levelLow
  | 5 => some .valveFault
  | _ => none

/-- The criterion is put to the fresh cells only (R172). -/
def Criterion.ofReadings : Criterion → Bool
  | .levelLow | .valveFault => false
  | _ => true

/-- The positions a survey considers, ascending (R172). -/
def State.considered (s : State) (i : StringNo) (k : Criterion) : List Position :=
  allPositions.filter fun p => if k.ofReadings then s.fresh i p else s.fittedPos i p

/-- The cell meets the criterion (R173). `mean` is the mean cell voltage of the survey. -/
def Criterion.meets (k : Criterion) (value : Int) (mean : Nat) (c : Cell) : Bool :=
  match k with
  | .voltAtLeast => value ≤ c.voltage
  | .voltAtMost => (c.voltage : Int) ≤ value
  | .voltOffMean => value < ((c.voltage : Int) - mean).natAbs
  | .tempAtLeast => value ≤ c.tHalf
  | .levelLow => c.level = .low
  | .valveFault => c.valveFault

/-- The matching positions, ascending (R173, R174). -/
def State.matching (s : State) (i : StringNo) (k : Criterion) (value : Int) : List Position :=
  (s.considered i k).filter fun p => k.meets value ((s.meanVoltage i).getD 0) (s.cell i p)

/-- The stale count (R172): fitted positions that are not fresh, for a criterion of readings. -/
def State.staleCount (s : State) (i : StringNo) (k : Criterion) : Nat :=
  if k.ofReadings then (allPositions.filter fun p => s.fittedPos i p && !s.fresh i p).length else 0

/-- The data of a survey reply (R20, R174). -/
def State.surveyBytes (s : State) (i : StringNo) (code : Nat) (k : Criterion) (value : Int) : List Byte :=
  let hits := s.matching i k value
  let seen := s.considered i k
  let none := hits.isEmpty
  let all := !seen.isEmpty && hits.length = seen.length
  beBytes 1 i.val ++ beBytes 1 code ++ beBytes 1 ((if none then 1 else 0) + (if all then 2 else 0)) ++
  beBytes 1 hits.length ++ beBytes 1 (s.staleCount i k) ++ hits.flatMap fun p => beBytes 1 p.val

/-! ## Status (R20, R183) -/

/-- The state byte of a string in STATUS (R20); an ABSENT string reports presence UNKNOWN (R183). -/
def statusByte (r : StringRec) : Nat :=
  stringStateCode r.state * 16 + presenceCode (if r.state = .absent then .unknown else r.presence)

/-- The state of bay 1 in STATUS: FREE while not in use (R183). -/
def State.bay1Shown (s : State) : BayState := if s.site.bays = 2 then (s.bay 1).state else .free

/-- The data of a STATUS reply, 32 bytes (R20, R183). -/
def State.statusBytes (s : State) : List Byte :=
  beBytes 1 (gasStateCode s.gas.state) ++ beBytes 1 (gasReasonCode s.gas.reason) ++
  beBytes 1 (sensorStateCode s.gas.sensor) ++ [flagByte (s.gas.fan ≠ .off)] ++ beBytes 1 s.ceiling ++
  beBytes 1 (bayStateCode (s.bay 0).state) ++ beBytes 1 (bayStateCode s.bay1Shown) ++
  beBytes 1 (roundStateCode s.water.round.state) ++ beBytes 2 s.water.tank ++ beBytes 2 s.water.reserve ++
  beBytes 1 s.requests.length ++ beBytes 1 s.mgmt.results.length ++
  allStrings.flatMap (fun i => beBytes 1 (statusByte (s.str i))) ++
  beBytes 2 s.fp.trunk.badFrames ++ beBytes 2 s.fp.chain.badFrames ++ beBytes 2 s.fp.upDrops ++
  beBytes 2 s.fp.downDrops ++ beBytes 2 s.fp.unmapped

/-- The five frame counters at 0 (R15). -/
def FramePath.clearCounters (fp : FramePath) : FramePath :=
  { fp with trunk := { fp.trunk with badFrames := 0 }, chain := { fp.chain with badFrames := 0 }, upDrops := 0,
            downDrops := 0, unmapped := 0 }

end Sys2Proof.Machine
end

