-- ==== Sys2Proof/Machine/TableWrites.lean ====
section
/-! DEFINITION. The table writes and what an accepted write does (R22, R27, R30, R40, R69, R168, R177 to R180). Each
answer takes the request's arguments after the table code, as R19 lays them out. -/

namespace Sys2Proof.Machine

open Sys2Proof

/-- The reply, and the state with the request's effect. -/
abbrev Answer := Reply × State

/-- A request refused with this code has no effect at all (R176). -/
def State.refuse (s : State) (c : ReplyCode) : Answer := ({ code := c }, s)

/-- The address is mapped with this role. -/
def State.mappedAs (s : State) (a : Byte) (role : Role) : Bool :=
  match s.mapped a with
  | none => false
  | some e => e.role = role

/-- The address is mapped with this role and names this string. -/
def State.mappedFor (s : State) (a : Byte) (role : Role) (i : StringNo) : Bool :=
  match s.mapped a with
  | none => false
  | some e => e.role = role && e.string = some i

/-! ## The Site record (R178) -/

/-- The conflicts of a Site record write (R178). -/
def State.siteConflict (s : State) (x : Site) : Bool :=
  (x.bays ≠ s.site.bays && !s.baysFree) || (x.charger ≠ s.site.charger && !s.baysFree) || x.budget * 100 < s.busySum ||
  (x.charger ≠ 0 && !s.mappedAs x.charger .charger) || (x.gasSensor ≠ 0 && !s.mappedAs x.gasSensor .gasSensor) ||
  (x.fan ≠ 0 && !s.mappedAs x.fan .fan)

/-- The effects of an accepted Site record write (R178): the record, then a changed fan address (R121), then a changed gas
sensor address (R113), so that a fan whose need the sensor makes arise is commanded once (DESIGN CHOICE, unsafe:
notes/assumptions/17.md); an evaluation follows (R177). -/
def State.applySite (s : State) (x : Site) : State :=
  let old := s.site
  let s := { s with site := x }
  let s := if x.fan = old.fan then s else s.fanMoved old.fan
  let s := if x.gasSensor = old.gasSensor then s else s.sensorMoved
  s.trigger

/-- TABLE_WRITE of the Site record (R178). -/
def State.writeSite (s : State) (body : List Byte) : Answer :=
  if !(readSite body).inRange then s.refuse .badRange
  else if s.siteConflict (readSite body) then s.refuse .badState
  else ({ code := .ok }, s.applySite (readSite body))

/-! ## The Source Map (R22) -/

/-- The entry at its place in ascending address order, in place of one at the same address. -/
def insertEntry (e : MapEntry) : List MapEntry → List MapEntry
  | [] => [e]
  | x :: l =>
    if e.addr.toNat < x.addr.toNat then e :: x :: l
    else if e.addr = x.addr then e :: l
    else x :: insertEntry e l

def State.setMap (s : State) (l : List MapEntry) : State := { s with sourceMap := l }

/-- A String Table record names the address as its switch or sensor address. -/
def State.stringNames (s : State) (a : Byte) : Bool :=
  allStrings.any fun i => (s.str i).cfg.switch = a || (s.str i).cfg.sensor = a

/-- A Cell Table record binds a valve to the address. -/
def State.cellBinds (s : State) (a : Byte) : Bool :=
  allStrings.any fun i => allPositions.any fun p =>
    match (s.cell i p).binding with
    | none => false
    | some b => b.addr = a

/-- The entry is a CELL_MONITOR of a string whose sweep is SWEEPING. -/
def State.sweptMonitor (s : State) (e : MapEntry) : Bool :=
  e.role = .cellMonitor &&
    match e.string with
    | none => false
    | some i => (s.str i).sweep.isSweeping

/-- The cells of two CELL_MONITOR entries of one string overlap (R21). -/
def MapEntry.overlaps (a b : MapEntry) : Bool :=
  a.role = .cellMonitor && b.role = .cellMonitor && a.string = b.string && a.addr ≠ b.addr &&
    match a.block, b.block with
    | some (f, n), some (g, m) => f < g + m && g < f + n
    | _, _ => false

/-- The cells of the entry overlap those of another monitor in the map. -/
def State.overlapsMap (s : State) (e : MapEntry) : Bool := s.sourceMap.any e.overlaps

/-- The deletion of an entry is refused (R22). -/
def State.deletionConflict (s : State) (e : MapEntry) : Bool :=
  s.stringNames e.addr || s.site.charger = e.addr || s.site.gasSensor = e.addr || s.site.fan = e.addr ||
  s.cellBinds e.addr || (s.holderOf e.addr).isSome || s.sweptMonitor e

/-- A new entry is refused (R22). -/
def State.additionConflict (s : State) (e : MapEntry) : Bool :=
  Config.sourceMapCap ≤ s.sourceMap.length || s.overlapsMap e || s.sweptMonitor e

/-- An amendment of `old` to `e` is refused (R22). -/
def State.amendConflict (s : State) (old e : MapEntry) : Bool :=
  (e.string ≠ old.string && (s.stringNames e.addr || (s.holderOf e.addr).isSome)) || s.overlapsMap e ||
  s.sweptMonitor old || s.sweptMonitor e

/-- A VALVE entry added while the round is FILLING or ENDING is held at once (R131). -/
def State.holdNewValve (s : State) (e : MapEntry) : State :=
  if e.role = .valve ∧ s.water.round.state ≠ .idle then s.takeHold e.addr .manifold else s

/-- A write that names a role (R22): duplicate, amendment or new entry. -/
def State.writeEntry (s : State) (e : MapEntry) : Answer :=
  match s.mapped e.addr with
  | some old =>
    if old.role ≠ e.role then s.refuse .badState
    else if s.amendConflict old e then s.refuse .badState
    else ({ code := .ok }, s.setMap (insertEntry e s.sourceMap))
  | none =>
    if s.additionConflict e then s.refuse .badState
    else ({ code := .ok }, (s.setMap (insertEntry e s.sourceMap)).holdNewValve e)

/-- A write of role 00h (R22): the deletion of the entry, or nothing when there is none. -/
def State.deleteEntry (s : State) (a : Byte) : Answer :=
  match s.mapped a with
  | none => ({ code := .ok }, s)
  | some e =>
    if s.deletionConflict e then s.refuse .badState
    else ({ code := .ok }, s.setMap (s.sourceMap.filter (·.addr ≠ a)))

/-- TABLE_WRITE of a Source Map entry (R22): the address, then the 5-byte body. A deletion may carry any other field in its range
or absent (DESIGN CHOICE, unsafe: notes/assumptions/4.md). -/
def State.writeSourceMap (s : State) (args : List Byte) : Answer :=
  let a := byteField args 0
  let body := args.drop 1
  if !isFieldAddr a then s.refuse .badRange
  else if natField body 0 1 = 0 then if deletionInRange body then s.deleteEntry a else s.refuse .badRange
  else
    match readEntry a body with
    | none => s.refuse .badRange
    | some e => s.writeEntry e

/-! ## The String Table (R30, R40, R69, R179) -/

/-- The conflicts of a String Table write (R179). -/
def State.stringConflict (s : State) (i : StringNo) (c : StringConfig) : Bool :=
  ((s.str i).state ≠ .absent && (s.str i).state ≠ .float) ||
  (if c.cellCount = 0 then
    (c.switch ≠ 0 && !s.mappedFor c.switch .switch i) || (c.sensor ≠ 0 && !s.mappedFor c.sensor .stringSensor i)
  else !s.mappedFor c.switch .switch i || !s.mappedFor c.sensor .stringSensor i)

/-- A position that leaves the fitted range (R30). -/
def Cell.unfit (c : Cell) : Cell := { c with ov := {}, ot := {}, levelQ := {}, level := .unknown }

/-- The cells are brought into line with a lower count (R30): the positions from `new` up to `old` return to their cold
values; an OT qualifier that was set delivers its clear, a LEVEL qualifier that was LOW its OK. -/
def State.unfitCells (s : State) (i : StringNo) (old new : Nat) : State :=
  let leaves (p : Position) : Bool := new ≤ p.val && p.val < old
  let wasOt := allPositions.any fun p => leaves p && (s.cell i p).ot.state
  let wasLow := allPositions.any fun p => leaves p && (s.cell i p).levelQ.state
  let s := s.modStr i fun r => r.mapCells fun p c => if leaves p then c.unfit else c
  let s := if wasOt then s.trigger else s
  if wasLow then s.levelOkEvent i else s

/-- The string state and the census after a write (R40, R82): fitted from 0, unfitted, or with a new sensor address. -/
def State.refitString (s : State) (i : StringNo) (old : StringConfig) : State :=
  let c := (s.str i).cfg
  if c.cellCount = 0 then
    if old.cellCount = 0 then s
    else (s.modStr i fun r => { r with state := .absent, presence := .unknown, censusStart := none }).dropString i
  else if old.cellCount = 0 then (s.modStr i fun r => r.restartCensus s.second).enterFloat i
  else if c.sensor = old.sensor then s
  else s.modStr i fun r => r.restartCensus s.second

/-- The snapshot latch of a string is emptied (R168). -/
def State.emptyLatch (s : State) (i : StringNo) : State :=
  { s with mgmt := { s.mgmt with latches := tset s.mgmt.latches i none } }

/-- The effects of an accepted String Table write (R179). -/
def State.applyString (s : State) (i : StringNo) (c : StringConfig) : State :=
  let old := (s.str i).cfg
  let s := s.modStr i fun r => { r with cfg := c }
  (((s.refitString i old).unfitCells i old.cellCount c.cellCount).emptyLatch i).trigger

/-- TABLE_WRITE of a String Table record (R179): the string, then the 13-byte body. -/
def State.writeString (s : State) (args : List Byte) : Answer :=
  match indexOf? 8 (natField args 0 1) with
  | none => s.refuse .badRange
  | some i =>
    let body := args.drop 1
    if !stringBodyInRange body then s.refuse .badRange
    else if s.stringConflict i (readString body) then s.refuse .badState
    else ({ code := .ok }, s.applyString i (readString body))

/-! ## The Cell Table (R27) -/

/-- The pair is already bound to another cell (R27). -/
def State.boundElsewhere (s : State) (i : StringNo) (p : Position) (b : Binding) : Bool :=
  allStrings.any fun j => allPositions.any fun q => (s.cell j q).binding = some b && !(j = i && q = p)

/-- The conflicts of a Cell Table write (R27). A binding that differs from the present one is changed (DEDUCED, safe:
notes/assumptions/21.md). -/
def State.cellConflict (s : State) (i : StringNo) (p : Position) (b : Option Binding) : Bool :=
  (match b with
   | none => false
   | some b => !s.mappedAs b.addr .valve || s.boundElsewhere i p b) ||
  ((s.str i).state = .watering && b ≠ (s.cell i p).binding)

/-- TABLE_WRITE of a Cell Table record (R27): string, position, then the 7-byte body. -/
def State.writeCell (s : State) (args : List Byte) : Answer :=
  match indexOf? 8 (natField args 0 1), indexOf? 32 (natField args 1 1) with
  | some i, some p =>
    let body := args.drop 2
    if !cellBodyInRange body then s.refuse .badRange
    else if s.cellConflict i p (readBinding body) then s.refuse .badState
    else
      ({ code := .ok },
       (s.modCell i p fun c =>
          { c with binding := readBinding body, override := readOverride body,
                   valveFault := c.valveFault && natField body 6 1 ≠ 0 }).trigger)
  | _, _ => s.refuse .badRange

/-! ## The Profile Table (R180) -/

/-- BASELINE, TRANSFER_OUT, EQUALISING, HELD, TRANSFER_BACK, SETTLING or WATERING (R180). -/
def StringState.working (x : StringState) : Bool := x.inBay || x = .settling || x = .watering

/-- The conflict of a Profile write (R180). -/
def State.profileConflict (s : State) (k : ProfileNo) : Bool :=
  allStrings.any fun i => (s.str i).cfg.profile = k && (s.str i).state.working

/-- The latches of the strings on a profile are emptied (R168). -/
def State.emptyProfileLatches (s : State) (k : ProfileNo) : State :=
  { s with mgmt := { s.mgmt with
      latches := tabulate fun i => if (s.str i).cfg.profile = k then none else s.mgmt.latches[i] } }

/-- TABLE_WRITE of a Profile (R180): the profile, then the 29-byte body. -/
def State.writeProfile (s : State) (args : List Byte) : Answer :=
  match indexOf? 8 (natField args 0 1) with
  | none => s.refuse .badRange
  | some k =>
    let x := readProfile (args.drop 1)
    if !x.inRange then s.refuse .badRange
    else if s.profileConflict k then s.refuse .badState
    else ({ code := .ok }, ({ s with profiles := tset s.profiles k x }.emptyProfileLatches k).trigger)

end Sys2Proof.Machine
end

