-- ==== Sys2Proof/Machine/Restart.lean ====
section
/-! DEFINITION. The two levels of reset: the parts of a warm restart, block by block (R184), and the cold reset (R185). -/

namespace Sys2Proof.Machine

open Sys2Proof

/-- FP's part (R184): the counters at 0 and both marks FORWARD; queues, receivers, transmissions and offers kept. -/
def FramePath.restart (fp : FramePath) : FramePath :=
  let fp := fp.clearCounters
  { fp with trunk := { fp.trunk with mark := .forwardServed }, chain := { fp.chain with mark := .forwardServed } }

/-- A SWEEPING sweep of a string stops (R44). -/
def State.stopSweep (s : State) (i : StringNo) : State :=
  (s.withdraw (.sweep i)).modStr i fun r => { r with sweep := .idle }

/-- EQ's part for a bay (R110): a BASELINE job ends with elapsed minutes 0; TRANSFER_OUT, EQUALISING and HELD end by R102;
the start minute of a string then in TRANSFER_BACK, or ISOLATED with its BLOCKED bay, becomes 0. A BASELINE job that ends
leaves GS's count by the notice of R120, which may end the fan need in the restart, although R123 lists the fan state as kept
(DEDUCED, unsafe: notes/assumptions/29.md). -/
def State.restartBay (s : State) (b : BayNo) : State :=
  match (s.bay b).string with
  | none => s
  | some i =>
    match (s.str i).state with
    | .baseline => s.endInBaseline b i ⟨.abnormal, .restart⟩ 0
    | _ => (s.endJob b ⟨.abnormal, .restart⟩).modStr i fun r => { r with startMinute := 0 }

/-- EQ's part for a string (R110): SETTLING enters FLOAT and its settle timer stops. -/
def State.restartSettling (s : State) (i : StringNo) : State :=
  if (s.str i).state = .settling then (s.modStr i fun r => { r with settle := .stopped }).enterFloat i else s

/-- A retry hold carried over a warm restart at this minute (R81): its remaining minutes, at least 1; a hold that has reached
its end minute has ended. -/
def carryHold (now : Nat) : Option Nat → Option Nat
  | none => none
  | some m => if m ≤ now then none else some (m - now)

/-- RQ's part (R62, R81): the list is emptied, and each retry hold is carried over. -/
def State.restartRequests (s : State) : State :=
  { s with requests := [] }.mapStrings fun _ r => { r with retryHold := carryHold s.minute r.retryHold }

/-- The run fields of a cell at a warm restart (R26): cleared, but for the dispensed total and the valve fault flag. -/
def Cell.restart (c : Cell) : Cell :=
  { binding := c.binding, override := c.override, valveFault := c.valveFault, dispensed := c.dispensed }

/-- Intake's part for a string (R26, R40, R45, R49). -/
def StringRec.restart (r : StringRec) : StringRec :=
  let r := { r with lastArrival := none, lastCurrent := 0, lastVoltage := 0, lastMean := none }.mapCells fun _ c => c.restart
  if r.cfg.cellCount = 0 then r else { r with presence := .unknown, censusStart := some 0 }

/-- Intake's part (R184): the counters at 0, cells cleared, census restarted, last means absent. -/
def State.restartIntake (s : State) : State := { s with clock := {} }.mapStrings fun _ r => r.restart

/-- MU's part (R168): every latch is emptied. -/
def State.restartLatches (s : State) : State :=
  { s with mgmt := { s.mgmt with latches := Vector.replicate 8 none } }

/-- The effects of a warm restart, together in one action (R184). The parts that read the clock or the cells as they stood
before (R81, R110, R148) come before Intake's. DESIGN CHOICE, unsafe (notes/assumptions/19.md): the order of the blocks, and
of EQ's two bays: bay 0, with the result and NOTICE of its end, before bay 1. -/
def State.warmRestart (s : State) : State :=
  let s := { s with fp := s.fp.restart }
  let s := allStrings.foldl State.stopSweep s
  let s := allBays.foldl State.restartBay s
  let s := allStrings.foldl State.restartSettling s
  let s := s.restartWater
  s.restartRequests.restartIntake.restartGas.restartLatches

/-- The part after a cold reset (R185): every piece of state at its cold value, the straps as read at the rise. The queue
of commands is the model's own and stays (DESIGN CHOICE, safe: notes/assumptions/3.md). -/
def State.coldReset (s : State) (node : BitVec 3) (baud : PinLevel) : State :=
  { State.reset with node := node, baud := baud, pending := s.pending }

/-- COLD_RESET (R185). -/
def execColdReset (node : BitVec 3) (baud : PinLevel) (s : State) : Host.Outcome State Fault Refusal :=
  .next (s.coldReset node baud)

end Sys2Proof.Machine
end

