-- ==== Sys2Proof/Machine/FramePath.lean ====
section
/-! DEFINITION. The receivers (R3, R4), the dispatch of received frames (R5 to R8), and the commands by which bytes and
frames arrive, transmissions end and waiting offers are taken. -/

namespace Sys2Proof.Machine

open Sys2Proof

/-! ## The receiver (R3) -/

/-- What a byte makes of a receiver: nothing yet, a dropped frame, or a complete one. -/
inductive RxEvent where
  | quiet
  | dropped
  | complete (f : Frame)
deriving DecidableEq, Repr

/-- A complete frame is judged by its CRC (R4). -/
def judgeFrame (dst src kind : Byte) (payload : List Byte) (high low : Byte) : RxEvent :=
  if beNat [high, low] = (crcOf (coveredBytes dst src kind payload)).toNat then
    .complete (mkFrame dst src kind payload)
  else .dropped

/-- The receiver after LEN (R3). -/
def Receiver.afterLen (dst src kind len : Byte) : Receiver × RxEvent :=
  if len.toNat = 0 then (.checkHigh dst src kind [], .quiet)
  else if len.toNat ≤ Config.maxLen then (.payload dst src kind len.toNat [], .quiet)
  else (.hunt, .dropped)

/-- The arrival of a byte (R3). -/
def Receiver.take (r : Receiver) (b : Byte) : Receiver × RxEvent :=
  match r with
  | .hunt => (if b = Config.startByte then .headerDst else .hunt, .quiet)
  | .headerDst => (.headerSrc b, .quiet)
  | .headerSrc d => (.headerKind d b, .quiet)
  | .headerKind d s => (.headerLen d s b, .quiet)
  | .headerLen d s k => Receiver.afterLen d s k b
  | .payload d s k missing got =>
    if missing ≤ 1 then (.checkHigh d s k (got ++ [b]), .quiet) else (.payload d s k (missing - 1) (got ++ [b]), .quiet)
  | .checkHigh d s k p => (.checkLow d s k p b, .quiet)
  | .checkLow d s k p high => (.hunt, judgeFrame d s k p high b)

/-- A byte with a missing stop bit (R3): in HUNT no count; in any other state the partly gathered frame is dropped. -/
def Receiver.lineError : Receiver → RxEvent
  | .hunt => .quiet
  | _ => .dropped

/-! ## Dispatch (R5 to R8) -/

/-- A MGMT_REQUEST for the own node: the tail of the MU input queue, or dropped and counted (R6). -/
def State.queueRequest (s : State) (r : Request) : State :=
  if s.mgmt.input.length < Config.muInputCap then { s with mgmt := { s.mgmt with input := s.mgmt.input ++ [r] } }
  else s.countDownDrop

/-- A frame received at the trunk port (R5, R6, R8). -/
def State.trunkReceived (s : State) (f : Frame) : State :=
  if isInvalidDst f.dst then s.countBad .trunk
  else if f.dst = s.own then
    if f.kind = kindMgmtRequest then s.queueRequest ⟨f.src, f.payload⟩ else s.countBad .trunk
  else if isFieldAddr f.dst && isCommandKind f.kind then
    match s.holderOf f.dst with
    | some h => s.offerUp (rejectFrame s.own f h)
    | none => s.forwardDown f
  else s.forwardDown f

/-- A frame that Intake does not take in: counted, and forwarded unless its entry's action is ABSORB (R7). -/
def State.notTakenIn (s : State) (f : Frame) : State :=
  match s.mapped f.src with
  | none => s.countUnmapped.forwardUp f
  | some e => if e.pass then s.countUnmapped.forwardUp f else s.countUnmapped

/-- A frame received at the chain port (R5, R7). A report taken in is acted on whole, its evaluation included, before its
frame goes on (DEDUCED, unsafe: notes/assumptions/15.md). -/
def State.chainReceived (s : State) (f : Frame) : State :=
  if isInvalidDst f.dst then s.countBad .chain
  else if isNodeAddr f.src then s.forwardUp f
  else
    match s.takesIn f with
    | none => s.notTakenIn f
    | some (e, r) => if e.pass then ((s.handleReport e r).settle).forwardUp f else (s.handleReport e r).settle

/-- A frame received at a port is dispatched at once (R4). -/
def State.received (s : State) : Port → Frame → State
  | .trunk, f => s.trunkReceived f
  | .chain, f => s.chainReceived f

/-- What an event of a receiver does (R3, R4, R15). -/
def State.rxEvent (s : State) (p : Port) : RxEvent → State
  | .quiet => s
  | .dropped => s.countBad p
  | .complete f => s.received p f

/-- One byte arrives at a port (R3). -/
def State.byteIn (p : Port) (s : State) (b : Byte) : State :=
  let out := (s.fp.port p).rx.take b
  (s.modPort p fun q => { q with rx := out.1 }).rxEvent p out.2

/-- Bytes arrive at a port, one after the other. -/
def State.bytesIn (s : State) (p : Port) (l : List Byte) : State := l.foldl (State.byteIn p) s

/-- A byte with a missing stop bit arrives at a port (R3). -/
def State.errorIn (s : State) (p : Port) : State :=
  let out := (s.fp.port p).rx.lineError
  (s.modPort p fun q => { q with rx := .hunt }).rxEvent p out

/-- A whole frame arrives at a port: the bytes of R2, through the receiver. -/
def State.frameIn (s : State) (p : Port) (f : Frame) : State := s.bytesIn p (wireBytes f)

/-! ## Arrivals. DESIGN CHOICE, safe (notes/assumptions/6.md): a row carries what arrives, which the rules dispatch. -/

/-- LINE_ERROR (R3). -/
def execLineError (port : Port) (bytes : List Byte) (s : State) : Host.Outcome State Fault Refusal :=
  .next ((s.bytesIn port bytes).errorIn port)

/-- BAD_FRAME (R3, R4, R5, R6). -/
def execBadFrame (port : Port) (bytes : List Byte) (s : State) : Host.Outcome State Fault Refusal :=
  .next (s.bytesIn port bytes)

/-- MGMT_REQUEST (R6). -/
def execMgmtRequest (src : Byte) (payload : List Byte) (s : State) : Host.Outcome State Fault Refusal :=
  .next (s.frameIn .trunk (mkFrame s.own src kindMgmtRequest payload))

/-- TRUNK_FRAME_FORWARD (R6). -/
def execTrunkFrameForward (dst src kind : Byte) (payload : List Byte) (s : State) : Host.Outcome State Fault Refusal :=
  .next (s.frameIn .trunk (mkFrame dst src kind payload))

/-- HELD_ADDRESS_REFUSAL (R8). -/
def execHeldAddressRefusal (dst src kind : Byte) (payload : List Byte) (s : State) : Host.Outcome State Fault Refusal :=
  .next (s.frameIn .trunk (mkFrame dst src kind payload))

/-- CHAIN_FRAME_FORWARD (R7). -/
def execChainFrameForward (dst src kind : Byte) (payload : List Byte) (s : State) : Host.Outcome State Fault Refusal :=
  .next (s.frameIn .chain (mkFrame dst src kind payload))

/-- CELL_REPORT (R28). -/
def execCellReport (dst src : Byte) (samples : List CellSample) (s : State) : Host.Outcome State Fault Refusal :=
  .next (s.frameIn .chain (mkFrame dst src kindCellReport (cellPayload samples)))

/-- STRING_REPORT (R36). -/
def execStringReport (dst src : Byte) (current : BitVec 32) (voltage : BitVec 16) (s : State) :
    Host.Outcome State Fault Refusal :=
  .next (s.frameIn .chain (mkFrame dst src kindStringReport (stringPayload current voltage)))

/-- LEVEL_REPORT (R34). -/
def execLevelReport (dst src position : Byte) (level : LevelCode) (s : State) : Host.Outcome State Fault Refusal :=
  .next (s.frameIn .chain (mkFrame dst src kindLevelReport (levelPayload position level)))

/-- VALVE_REPORT (R128). -/
def execValveReport (dst src channel : Byte) (code : ValveCode) (dispensed : BitVec 16) (s : State) :
    Host.Outcome State Fault Refusal :=
  .next (s.frameIn .chain (mkFrame dst src kindValveReport (valvePayload channel code dispensed)))

/-- SWITCH_REPORT (R108). -/
def execSwitchReport (dst src : Byte) (position : SwitchCode) (s : State) : Host.Outcome State Fault Refusal :=
  .next (s.frameIn .chain (mkFrame dst src kindSwitchReport (switchPayload position)))

/-- CHARGER_REPORT (R96). -/
def execChargerReport (dst src output : Byte) (state : ChargerCode) (voltage current : BitVec 16) (s : State) :
    Host.Outcome State Fault Refusal :=
  .next (s.frameIn .chain (mkFrame dst src kindChargerReport (chargerPayload output state voltage current)))

/-- GAS_REPORT (R114). -/
def execGasReport (dst src : Byte) (concentration : BitVec 16) (status : Byte) (s : State) :
    Host.Outcome State Fault Refusal :=
  .next (s.frameIn .chain (mkFrame dst src kindGasReport (gasPayload concentration status)))

/-! ## Transmission and waiting offers (R11, R12, R13) -/

/-- The frame in transmission has been sent to its end (R13); an IDLE transmitter has none. -/
def State.transmissionEnded (s : State) (p : Port) : State :=
  match (s.fp.port p).sending with
  | none => s
  | some _ => s.modPort p PortState.endTransmission

/-- TRANSMISSION_END (R13). -/
def execTransmissionEnd (port : Port) (s : State) : Host.Outcome State Fault Refusal := .next (s.transmissionEnded port)

/-- The activity of an offer the queue has taken goes on past the send (R11, R41, R86, R121, R125, R133). -/
def State.offerTaken (s : State) (o : Offer) : State :=
  match o.activity, o.cmd with
  | .bay b, c => s.bayTaken b c
  | .sweep i, .sampleNow a => (s.noteAsked i a).sweepNext i
  | .watering, .valveOpen .. => s.openTaken
  | .watering, .valveClose .. => s.closeTaken
  | _, _ => s

/-- The oldest waiting offer can be taken: an offer waits and the chain-local queue has a free slot (R11). -/
def State.offerReady (s : State) : Bool := !s.fp.offers.isEmpty && s.fp.chain.localQ.length < Config.localCap

/-- The oldest waiting offer is taken into a free chain-local slot (R11), an action of its own (DEDUCED, unsafe:
notes/assumptions/13.md). -/
def State.takeOffer (s : State) : State :=
  match s.fp.offers with
  | [] => s
  | o :: rest =>
    if s.fp.chain.localQ.length < Config.localCap then
      (({ s with fp := { s.fp with offers := rest } }.takeCmd o.cmd).offerTaken o).settle
    else s

/-- CHAIN_LOCAL_OFFER_TAKEN (R11). -/
def execChainLocalOfferTaken (s : State) : Host.Outcome State Fault Refusal := .next s.takeOffer

/-- MU returns from WAITING to IDLE as the queue takes its reply; the reply of a RESTART begins the restart's effects
(R12, R175, R184). -/
def State.replyTaken (s : State) (reply : Frame) (restart : Bool) : State :=
  let s := { s with mgmt := { s.mgmt with mu := .idle } }.modPort .trunk (·.pushLocal reply)
  if restart then s.warmRestart.settle else s

/-- MGMT_REPLY_TAKEN (R12, R175). -/
def execMgmtReplyTaken (s : State) : Host.Outcome State Fault Refusal :=
  match s.mgmt.mu with
  | .idle => .next s
  | .waiting reply restart => .next (if s.trunkLocalRoom then s.replyTaken reply restart else s)

/-- WARM_RESTART (R184): the waiting OK reply of a RESTART is taken, and the restart's effects are made. A RESTART whose
reply finds a slot makes them in its own action (DEDUCED, safe: notes/assumptions/14.md). -/
def execWarmRestart (s : State) : Host.Outcome State Fault Refusal :=
  match s.mgmt.mu with
  | .waiting reply true => .next (if s.trunkLocalRoom then s.replyTaken reply true else s)
  | _ => .next s

end Sys2Proof.Machine
end

