-- ==== Sys2Proof/Machine/Management.lean ====
section
/-! DEFINITION. The Management Unit takes a request from the head of its input queue, answers it, and offers the reply
(R18, R19, R70 to R72, R107, R118, R127, R166 to R184). -/

namespace Sys2Proof.Machine

open Sys2Proof

/-! ## The form of a request (R18, R19, R176) -/

/-- What a request of known code and right LEN asks for; `unknown` is a request that fails the form check of R18, or
names no table of R19 (DEDUCED, safe: notes/assumptions/9.md). -/
inductive RequestKind where
  | writeSite
  | writeSourceMap
  | writeString
  | writeCell
  | writeProfile
  | tableRead
  | restore
  | jobStart
  | jobCancel
  | setCeiling
  | setTank
  | fetchResult
  | snapshot
  | readSnapshot
  | survey
  | sweep
  | release
  | clearTrip
  | status
  | restart
  | unknown
deriving DecidableEq, Repr

/-- TABLE_WRITE by table code and length of selector and body (R18, R19). -/
def writeKind : List Byte → RequestKind
  | [] => .unknown
  | t :: args =>
    if t = 0x01 ∧ args.length = 23 then .writeSite
    else if t = 0x02 ∧ args.length = 6 then .writeSourceMap
    else if t = 0x03 ∧ args.length = 14 then .writeString
    else if t = 0x04 ∧ args.length = 9 then .writeCell
    else if t = 0x05 ∧ args.length = 30 then .writeProfile
    else .unknown

/-- The length of a table's selector (R19); none for a code outside 01h to 05h. -/
def selectorLength (t : Byte) : Option Nat :=
  if t = 0x01 then some 0 else if t = 0x02 then some 1 else if t = 0x03 then some 1 else if t = 0x04 then some 2
  else if t = 0x05 then some 1 else none

/-- TABLE_READ by table code and length of selector and part (R18, R19). -/
def readKind : List Byte → RequestKind
  | [] => .unknown
  | t :: args => if selectorLength t = some (args.length - 1) ∧ args ≠ [] then .tableRead else .unknown

/-- The kind of a request with a fixed length of arguments (R18). -/
def fixedKind (k : RequestKind) (want : Nat) (args : List Byte) : RequestKind := if args.length = want then k else .unknown

/-- The kind of a request payload (R18). -/
def requestKind : List Byte → RequestKind
  | [] => .unknown
  | c :: args =>
    if c = 0x01 then writeKind args
    else if c = 0x02 then readKind args
    else if c = 0x03 then fixedKind .restore 8 args
    else if c = 0x04 then fixedKind .jobStart 3 args
    else if c = 0x05 then fixedKind .jobCancel 2 args
    else if c = 0x06 then fixedKind .setCeiling 1 args
    else if c = 0x07 then fixedKind .setTank 4 args
    else if c = 0x08 then fixedKind .fetchResult 0 args
    else if c = 0x09 then fixedKind .snapshot 1 args
    else if c = 0x0A then fixedKind .readSnapshot 1 args
    else if c = 0x0B then fixedKind .survey 4 args
    else if c = 0x0C then fixedKind .sweep 1 args
    else if c = 0x0D then fixedKind .release 1 args
    else if c = 0x0E then fixedKind .clearTrip 0 args
    else if c = 0x0F then fixedKind .status 1 args
    else if c = 0x10 then fixedKind .restart 0 args
    else .unknown

/-! ## Taking and answering (R175) -/

/-- The reply is offered to the trunk-local queue; when the queue is full it waits, and MU is WAITING (R12, R175). -/
def State.sendReply (s : State) (dst code : Byte) (r : Reply) : State :=
  let f := replyFrame s.own dst code r
  if s.trunkLocalRoom then s.modPort .trunk (·.pushLocal f) else { s with mgmt := { s.mgmt with mu := .waiting f false } }

/-- The request code a reply carries: 00h for a request with LEN 0 (R18). -/
def requestCode (p : List Byte) : Byte := p.headD 0x00

/-- The request leaves the queue, its effect is made with the evaluation it triggers, and the reply is offered (R175; DEDUCED,
unsafe: notes/assumptions/15.md and 20.md). -/
def State.answerHead (s : State) (r : Request) (rest : List Request) (answer : State → List Byte → Answer) : State :=
  let a := answer { s with mgmt := { s.mgmt with input := rest } } r.payload.tail
  a.2.settle.sendReply r.src (requestCode r.payload) a.1

/-- MU, when IDLE, takes the request at the head of its queue if it is of this kind (R175). MU WAITING, an empty queue or
another request at the head: the step is not due (DESIGN CHOICE, safe: notes/assumptions/7.md). -/
def State.takeRequest (s : State) (k : RequestKind) (answer : State → List Byte → Answer) : State :=
  match s.mgmt.mu, s.mgmt.input with
  | .idle, r :: rest => if requestKind r.payload = k then s.answerHead r rest answer else s
  | _, _ => s

/-- The string a request names by its first argument. -/
def stringArg (args : List Byte) : Option StringNo := indexOf? 8 (natField args 0 1)

/-- The kind of work at byte `off` of the arguments: 00h EQUALISE, 01h WATERING (R18). -/
def jobKindArg (args : List Byte) (off : Nat) : Option JobKind :=
  if natField args off 1 = 0 then some .equalise else if natField args off 1 = 1 then some .watering else none

/-! ## Table reads and RESTORE (R181, R182) -/

/-- The body of a TABLE_READ, by table code, selector and part (R19, R181). -/
def State.readBody (s : State) (table : Byte) (args : List Byte) : Reply :=
  let part := natField args (args.length - 1) 1
  let ok (body : List Byte) : Reply := { code := .ok, data := table :: args ++ body }
  if 1 < part ∨ (part = 1 ∧ table ≠ 0x03 ∧ table ≠ 0x04) then { code := .badRequest }
  else if table = 0x01 then ok (siteBody s.site)
  else if table = 0x02 then
    if isFieldAddr (byteField args 0) then ok (mapBody (s.mapped (byteField args 0))) else { code := .badRange }
  else if table = 0x03 then
    match stringArg args with
    | none => { code := .badRange }
    | some i => ok (if part = 0 then stringBody (s.str i).cfg else stringRun (s.str i))
  else if table = 0x04 then
    match stringArg args, indexOf? 32 (natField args 1 1) with
    | some i, some p => ok (if part = 0 then cellBody (s.cell i p) else cellRun (s.cell i p))
    | _, _ => { code := .badRange }
  else
    match stringArg args with
    | none => { code := .badRange }
    | some k => ok (profileBody s.profiles[k])

/-- TABLE_READ (R181): the table code, selector and part. -/
def State.answerRead (s : State) (args : List Byte) : Answer := (s.readBody (byteField args 0) (args.drop 1), s)

/-- RESTORE (R182): string, Q, equalise age. -/
def State.answerRestore (s : State) (args : List Byte) : Answer :=
  match stringArg args with
  | none => s.refuse .badRange
  | some i =>
    if (s.str i).state ≠ .absent ∧ (s.str i).state ≠ .float then s.refuse .badState
    else ({ code := .ok }, s.modStr i fun r => { r with q := natField args 1 5, age := natField args 6 2 })

/-! ## Requests to RQ and WT (R70 to R72, R127) -/

/-- JOB_START (R70): string, kind, level. -/
def State.answerJobStart (s : State) (args : List Byte) : Answer :=
  let level := natField args 2 1
  match stringArg args, jobKindArg args 1 with
  | some i, some k =>
    if level < 1 ∨ 7 < level then s.refuse .badRange
    else if (s.str i).state = .absent then s.refuse .badState
    else if k = .equalise ∧ (s.str i).state.inBay then s.refuse .badState
    else if k = .watering ∧ (s.str i).state = .watering then s.refuse .badState
    else ({ code := .ok }, s.raise i k .management level)
  | _, _ => s.refuse .badRange

/-- The list holds an entry for the pair (R71). -/
def State.lists (s : State) (i : StringNo) (k : JobKind) : Bool := s.requests.any (·.isFor i k)

/-- Running work that a cancel reaches (R71). -/
def State.cancellable (s : State) (i : StringNo) (k : JobKind) : Bool :=
  match k with
  | .equalise =>
    match (s.str i).state with
    | .baseline | .transferOut | .equalising | .held => true
    | _ => false
  | .watering => (s.str i).state = .watering && s.water.round.state = .filling

/-- The cancel of running work (R71, R100, R141). -/
def State.cancelWork (s : State) (i : StringNo) (k : JobKind) : State :=
  match k with
  | .equalise => s.endStringJob i .cancelled
  | .watering => s.cancelRound

/-- JOB_CANCEL (R71): string, kind. -/
def State.answerJobCancel (s : State) (args : List Byte) : Answer :=
  match stringArg args, jobKindArg args 1 with
  | some i, some k =>
    if s.lists i k ∨ s.cancellable i k then
      let running := s.cancellable i k
      let s := s.dropEntry i k
      ({ code := .ok }, if running then s.cancelWork i k else s)
    else s.refuse .badState
  | _, _ => s.refuse .badRange

/-- SET_CEILING (R72). -/
def State.answerSetCeiling (s : State) (args : List Byte) : Answer :=
  let c := natField args 0 1
  if 7 < c then s.refuse .badRange else ({ code := .ok }, { s with ceiling := c }.trigger)

/-- SET_TANK (R127): estimate, reserve; an offered fill is checked again (R134), and an evaluation follows. -/
def State.answerSetTank (s : State) (args : List Byte) : Answer :=
  ({ code := .ok },
   (s.modWater fun w => { w with tank := natField args 0 2, reserve := natField args 2 2 }).recheckOffer.trigger)

/-! ## Results, snapshots and surveys (R166, R169 to R174) -/

/-- FETCH_RESULT (R166). -/
def State.answerFetch (s : State) (_ : List Byte) : Answer :=
  match s.mgmt.results with
  | [] => s.refuse .empty
  | r :: rest => ({ code := .ok, data := resultBytes r }, { s with mgmt := { s.mgmt with results := rest } })

/-- SNAPSHOT (R169): an EMPTY latch is filled, and the mean computed is noted (R49). -/
def State.answerSnapshot (s : State) (args : List Byte) : Answer :=
  match stringArg args with
  | none => s.refuse .badRange
  | some i =>
    if (s.str i).state = .absent then s.refuse .badState
    else
      match s.mgmt.latches[i] with
      | some _ => ({ code := .ok, data := [0x01] }, s)
      | none =>
        let latches := tset s.mgmt.latches i (some (s.snapshotOf i))
        ({ code := .ok, data := [0x00] }, { s with mgmt := { s.mgmt with latches := latches } }.noteMean i)

/-- READ_SNAPSHOT (R171): a FULL latch is returned and emptied; else live values, whose mean is noted (R49). -/
def State.answerReadSnapshot (s : State) (args : List Byte) : Answer :=
  match stringArg args with
  | none => s.refuse .badRange
  | some i =>
    match s.mgmt.latches[i] with
    | some x => ({ code := .ok, data := snapshotBytes false x }, s.emptyLatch i)
    | none =>
      if (s.str i).state = .absent then s.refuse .badState
      else ({ code := .ok, data := snapshotBytes true (s.snapshotOf i) }, s.noteMean i)

/-- SURVEY (R172 to R174): string, criterion, value. -/
def State.answerSurvey (s : State) (args : List Byte) : Answer :=
  match stringArg args, criterionOf (natField args 1 1) with
  | some i, some k =>
    if s.fitted i then
      ({ code := .ok, data := s.surveyBytes i (natField args 1 1) k (beInt (field args 2 2)) }, s)
    else s.refuse .badState
  | _, _ => s.refuse .badRange

/-! ## SWEEP, RELEASE, CLEAR_TRIP, STATUS (R41, R107, R118, R183) -/

/-- SWEEP (R41). -/
def State.answerSweepRequest (s : State) (args : List Byte) : Answer :=
  match stringArg args with
  | none => s.refuse .badRange
  | some i =>
    if !s.fitted i then s.refuse .badState
    else if (s.str i).sweep.isSweeping then s.refuse .busy
    else ({ code := .ok }, s.startSweep i)

/-- RELEASE (R107). -/
def State.answerRelease (s : State) (args : List Byte) : Answer :=
  match stringArg args with
  | none => s.refuse .badRange
  | some i =>
    if (s.str i).state = .isolated then ({ code := .ok }, s.releaseString i) else s.refuse .badState

/-- CLEAR_TRIP (R118). -/
def State.answerClearTrip (s : State) (_ : List Byte) : Answer :=
  if s.gas.clearable then ({ code := .ok }, s.setGas s.gas.afterTrip.1 s.gas.afterTrip.2) else s.refuse .badState

/-- STATUS (R183): the status, and the counters at 0 when the flag asks. -/
def State.answerStatus (s : State) (args : List Byte) : Answer :=
  let flag := natField args 0 1
  if 1 < flag then s.refuse .badRange
  else
    ({ code := .ok, data := s.statusBytes }, if flag = 1 then { s with fp := s.fp.clearCounters } else s)

/-- A request that fails the form check (R18). -/
def State.answerUnknown (s : State) (_ : List Byte) : Answer := s.refuse .badRequest

/-! ## RESTART (R184) -/

/-- RESTART: the OK reply is offered first; the effects begin in the action in which the queue takes it. -/
def State.takeRestart (s : State) : State :=
  match s.mgmt.mu, s.mgmt.input with
  | .idle, r :: rest =>
    if requestKind r.payload = .restart then
      let s := { s with mgmt := { s.mgmt with input := rest } }
      let f := replyFrame s.own r.src (requestCode r.payload) { code := .ok }
      if s.trunkLocalRoom then s.replyTaken f true else { s with mgmt := { s.mgmt with mu := .waiting f true } }
    else s
  | _, _ => s

/-! ## The commands -/

/-- TABLE_WRITE_SITE (R178); the arguments follow the table code. -/
def execTableWriteSite (s : State) : Host.Outcome State Fault Refusal :=
  .next (s.takeRequest .writeSite fun s args => s.writeSite (args.drop 1))
/-- TABLE_WRITE_SOURCE_MAP (R22). -/
def execTableWriteSourceMap (s : State) : Host.Outcome State Fault Refusal :=
  .next (s.takeRequest .writeSourceMap fun s args => s.writeSourceMap (args.drop 1))
/-- TABLE_WRITE_STRING (R179). -/
def execTableWriteString (s : State) : Host.Outcome State Fault Refusal :=
  .next (s.takeRequest .writeString fun s args => s.writeString (args.drop 1))
/-- TABLE_WRITE_CELL (R27). -/
def execTableWriteCell (s : State) : Host.Outcome State Fault Refusal :=
  .next (s.takeRequest .writeCell fun s args => s.writeCell (args.drop 1))
/-- TABLE_WRITE_PROFILE (R180). -/
def execTableWriteProfile (s : State) : Host.Outcome State Fault Refusal :=
  .next (s.takeRequest .writeProfile fun s args => s.writeProfile (args.drop 1))
/-- TABLE_READ (R181). -/
def execTableRead (s : State) : Host.Outcome State Fault Refusal := .next (s.takeRequest .tableRead State.answerRead)
/-- RESTORE (R182). -/
def execRestore (s : State) : Host.Outcome State Fault Refusal := .next (s.takeRequest .restore State.answerRestore)
/-- JOB_START (R70). -/
def execJobStart (s : State) : Host.Outcome State Fault Refusal := .next (s.takeRequest .jobStart State.answerJobStart)
/-- JOB_CANCEL (R71). -/
def execJobCancel (s : State) : Host.Outcome State Fault Refusal := .next (s.takeRequest .jobCancel State.answerJobCancel)
/-- SET_CEILING (R72). -/
def execSetCeiling (s : State) : Host.Outcome State Fault Refusal := .next (s.takeRequest .setCeiling State.answerSetCeiling)
/-- SET_TANK (R127). -/
def execSetTank (s : State) : Host.Outcome State Fault Refusal := .next (s.takeRequest .setTank State.answerSetTank)
/-- FETCH_RESULT (R166). -/
def execFetchResult (s : State) : Host.Outcome State Fault Refusal := .next (s.takeRequest .fetchResult State.answerFetch)
/-- SNAPSHOT (R169). -/
def execSnapshot (s : State) : Host.Outcome State Fault Refusal := .next (s.takeRequest .snapshot State.answerSnapshot)
/-- READ_SNAPSHOT (R171). -/
def execReadSnapshot (s : State) : Host.Outcome State Fault Refusal :=
  .next (s.takeRequest .readSnapshot State.answerReadSnapshot)
/-- SURVEY (R172). -/
def execSurvey (s : State) : Host.Outcome State Fault Refusal := .next (s.takeRequest .survey State.answerSurvey)
/-- SWEEP (R41). -/
def execSweep (s : State) : Host.Outcome State Fault Refusal := .next (s.takeRequest .sweep State.answerSweepRequest)
/-- RELEASE (R107). -/
def execRelease (s : State) : Host.Outcome State Fault Refusal := .next (s.takeRequest .release State.answerRelease)
/-- CLEAR_TRIP (R118). -/
def execClearTrip (s : State) : Host.Outcome State Fault Refusal := .next (s.takeRequest .clearTrip State.answerClearTrip)
/-- STATUS (R183). -/
def execStatus (s : State) : Host.Outcome State Fault Refusal := .next (s.takeRequest .status State.answerStatus)
/-- RESTART (R184). -/
def execRestart (s : State) : Host.Outcome State Fault Refusal := .next s.takeRestart
/-- UNKNOWN_REQUEST (R18). -/
def execUnknownRequest (s : State) : Host.Outcome State Fault Refusal :=
  .next (s.takeRequest .unknown State.answerUnknown)

end Sys2Proof.Machine
end

