-- ==== Sys2Proof/Machine/Expiries.lean ====
section
/-! DEFINITION. The commands of the part's own time: the hour tick, the expiry of each timer, the end of a retry hold, and
the samples of the GASTRIP# pin. A command whose timer has not reached its expiry, or whose moment has not come, finds
nothing due and changes nothing: an expiry for a timer that is stopped does not occur (R85). DESIGN CHOICE, safe
(notes/assumptions/8.md). -/

namespace Sys2Proof.Machine

open Sys2Proof

/-! ## The hour tick and the retry hold (R24, R64, R65, R81) -/

/-- The hour tick, when one has been raised and not yet delivered (R24, R65). -/
def State.deliverHour (s : State) : State :=
  if s.clock.hourDue then { s with clock := { s.clock with hourDue := false } }.hourTicked.settle else s

/-- HOUR_TICK (R24). -/
def execHourTick (s : State) : Host.Outcome State Fault Refusal := .next s.deliverHour

/-- A retry hold that has reached its end minute ends, and an evaluation follows (R81). -/
def State.endRetryHold (s : State) (i : StringNo) : State :=
  if s.retryDue i then ((s.modStr i fun r => { r with retryHold := none }).trigger).settle else s

/-- RETRY_HOLD_END (R81). -/
def execRetryHoldEnd (string : StringNo) (s : State) : Host.Outcome State Fault Refusal := .next (s.endRetryHold string)

/-! ## The census (R39) -/

/-- CENSUS_EXPIRY (R39). -/
def execCensusExpiry (string : StringNo) (s : State) : Host.Outcome State Fault Refusal :=
  .next (if s.censusDue string then (s.setPresence string .missing).settle else s)

/-- PRESENCE_TIMEOUT (R39). -/
def execPresenceTimeout (string : StringNo) (s : State) : Host.Outcome State Fault Refusal :=
  .next (if s.silenceDue string then (s.setPresence string .missing).settle else s)

/-! ## Sweeps (R43) -/

/-- The sweep timer has reached its expiry. -/
def Sweep.due : Sweep → Bool
  | .idle => false
  | .sweeping _ t => t.due

/-- SWEEP_TIMEOUT (R43). -/
def execSweepTimeout (string : StringNo) (s : State) : Host.Outcome State Fault Refusal :=
  .next (if (s.str string).sweep.due then (s.sweepExpired string).settle else s)

/-! ## The timers of a bay (R85) -/

/-- The string of a bay, when its timer has reached its expiry and the string is in one of the given states. -/
def State.expiring (s : State) (b : BayNo) (timer : Bay → Timer) (states : List StringState) : Option StringNo :=
  if (timer (s.bay b)).due then
    match (s.bay b).string with
    | none => none
    | some i => if (s.str i).state ∈ states then some i else none
  else none

/-- CONFIRM_EXPIRY_OUT (R90). -/
def execConfirmExpiryOut (bay : BayNo) (s : State) : Host.Outcome State Fault Refusal :=
  match s.expiring bay (·.confirm) [.transferOut] with
  | none => .next s
  | some _ => .next (s.endJob bay ⟨.abnormal, .switch⟩).settle

/-- CONFIRM_EXPIRY_BACK (R104). -/
def execConfirmExpiryBack (bay : BayNo) (s : State) : Host.Outcome State Fault Refusal :=
  match s.expiring bay (·.confirm) [.transferBack] with
  | none => .next s
  | some i => .next (s.confirmBackExpired bay i).settle

/-- SAMPLE_TIMER_EXPIRY (R91). -/
def execSampleTimerExpiry (bay : BayNo) (s : State) : Host.Outcome State Fault Refusal :=
  match s.expiring bay (·.sample) [.equalising, .held] with
  | none => .next s
  | some _ => .next (s.endJob bay ⟨.abnormal, .starved⟩).settle

/-- WINDOW_EXPIRY (R92). -/
def execWindowExpiry (bay : BayNo) (s : State) : Host.Outcome State Fault Refusal :=
  match s.expiring bay (·.window) [.equalising] with
  | none => .next s
  | some i => .next (s.windowExpired bay i).settle

/-- DURATION_EXPIRY (R94). -/
def execDurationExpiry (bay : BayNo) (s : State) : Host.Outcome State Fault Refusal :=
  match s.expiring bay (·.duration) [.equalising] with
  | none => .next s
  | some _ => .next (s.endJob bay ⟨.complete, .duration⟩).settle

/-- HOLD_TIMER_EXPIRY (R97). -/
def execHoldTimerExpiry (bay : BayNo) (s : State) : Host.Outcome State Fault Refusal :=
  match s.expiring bay (·.hold) [.held] with
  | none => .next s
  | some _ => .next (s.endJob bay ⟨.abnormal, .gas⟩).settle

/-- The settle timer of a SETTLING string has reached its expiry (R106). -/
def State.settleDue (s : State) (i : StringNo) : Bool := (s.str i).state = .settling && (s.str i).settle.due

/-- SETTLE_EXPIRY (R106). -/
def execSettleExpiry (string : StringNo) (s : State) : Host.Outcome State Fault Refusal :=
  .next (if s.settleDue string then ((s.modStr string fun r => { r with settle := .stopped }).enterFloat string).settle else s)

/-! ## The Gas Supervisor's timers (R116, R120) -/

/-- LOST_TIMER_EXPIRY (R116). -/
def execLostTimerExpiry (s : State) : Host.Outcome State Fault Refusal :=
  .next (if s.gas.sensor = .live ∧ s.gas.lost.due then s.sensorSilent.settle else s)

/-- RUN_ON_EXPIRY (R120, R121). -/
def execRunOnExpiry (s : State) : Host.Outcome State Fault Refusal := .next s.runOnExpired.settle

/-! ## The fill timer (R139, R142) -/

/-- FILL_TIMER_EXPIRY (R139). -/
def execFillTimerExpiry (s : State) : Host.Outcome State Fault Refusal :=
  match s.water.round.state, s.water.round.fill with
  | .filling, some f => .next (if s.water.round.fillTimer.due then (s.fillExpired f).settle else s)
  | _, _ => .next s

/-- ENDING_FILL_EXPIRY (R142). -/
def execEndingFillExpiry (s : State) : Host.Outcome State Fault Refusal :=
  .next (if s.water.round.state = .ending ∧ s.water.round.fillTimer.due then s.finishCancelled.settle else s)

/-! ## The trip input (R117). DESIGN CHOICE, unsafe (notes/assumptions/23.md): each row is one sample. -/

/-- TRIP_INPUT_LOW (R117): a LOW sample, which flips the filter when it is the third in a row. -/
def execTripInputLow (s : State) : Host.Outcome State Fault Refusal := .next (s.tripSample .low).settle

/-- TRIP_INPUT_HIGH (R117): a HIGH sample, which flips the filter when it is the third in a row. -/
def execTripInputHigh (s : State) : Host.Outcome State Fault Refusal := .next (s.tripSample .high).settle

/-- TRIP_FILTER_SAMPLE (R117): a sample of this level. -/
def execTripFilterSample (level : PinLevel) (s : State) : Host.Outcome State Fault Refusal :=
  .next (s.tripSample level).settle

end Sys2Proof.Machine
end

