-- ==== Sys2Proof/Machine/Clock.lean ====
section
/-! DEFINITION. The part's own time (R24, R85): the step of the second counter, and the command that falls due on its own
when no command waits. DESIGN CHOICE, unsafe (notes/assumptions/1.md): the table has no row for a tick, so time passes on an
empty queue only. -/

namespace Sys2Proof.Machine

open Sys2Proof

/-! ## One step of the second counter -/

def Bay.tick (r : Bay) : Bay :=
  { r with confirm := r.confirm.tick, sample := r.sample.tick, window := r.window.tick, duration := r.duration.tick,
           hold := r.hold.tick }

def Sweep.tick : Sweep → Sweep
  | .idle => .idle
  | .sweeping l t => .sweeping l t.tick

def StringRec.tick (r : StringRec) : StringRec := { r with settle := r.settle.tick, sweep := r.sweep.tick }

def Gas.tick (g : Gas) : Gas := { g with lost := g.lost.tick, runOn := g.runOn.tick }

/-- The second counter steps, and an hour tick is raised at a whole, non-zero multiple of 3,600 (R24). -/
def Clock.tick (c : Clock) : Clock :=
  { second := c.second + 1, hourDue := c.hourDue || (c.second + 1) % Config.hourSeconds = 0 }

/-- One second passes: every running timer loses one (R85), and the census limit follows the sample timeout of the Site record
(R178). The counter holds at its maximum (R24), and the timers, which count its steps, hold with it (DESIGN CHOICE, unsafe:
notes/assumptions/2.md). -/
def State.tick (s : State) : State :=
  if s.clock.second < Config.maxSecond then
    { s with
      clock := s.clock.tick
      silenceTimeout := s.site.sampleTimeout
      strings := tabulate fun i => (s.str i).tick
      bays := tabulate fun b => (s.bay b).tick
      gas := s.gas.tick
      water := { s.water with round := { s.water.round with fillTimer := s.water.round.fillTimer.tick } } }
  else s

/-! ## What is due on its own -/

/-- The command by which MU takes a request of this kind. -/
def commandOf : RequestKind → Instr
  | .writeSite => .tableWriteSite
  | .writeSourceMap => .tableWriteSourceMap
  | .writeString => .tableWriteString
  | .writeCell => .tableWriteCell
  | .writeProfile => .tableWriteProfile
  | .tableRead => .tableRead
  | .restore => .restore
  | .jobStart => .jobStart
  | .jobCancel => .jobCancel
  | .setCeiling => .setCeiling
  | .setTank => .setTank
  | .fetchResult => .fetchResult
  | .snapshot => .snapshot
  | .readSnapshot => .readSnapshot
  | .survey => .survey
  | .sweep => .sweep
  | .release => .release
  | .clearTrip => .clearTrip
  | .status => .status
  | .restart => .restart
  | .unknown => .unknownRequest

/-- MU's next command: the waiting reply when a slot is free, or the request at the head of its queue (R12, R175). -/
def State.dueManagement (s : State) : List Instr :=
  match s.mgmt.mu, s.mgmt.input with
  | .waiting _ restart, _ => if s.trunkLocalRoom then [if restart then .warmRestart else .mgmtReplyTaken] else []
  | .idle, [] => []
  | .idle, r :: _ => [commandOf (requestKind r.payload)]

/-- The commands of a condition that holds. -/
def dueWhen (c : Bool) (i : Instr) : List Instr := if c then [i] else []

/-- The events of a string that are due. -/
def State.dueString (s : State) (i : StringNo) : List Instr :=
  dueWhen (s.censusDue i) (.censusExpiry i) ++ dueWhen (s.silenceDue i) (.presenceTimeout i) ++
  dueWhen (s.str i).sweep.due (.sweepTimeout i) ++ dueWhen (s.settleDue i) (.settleExpiry i) ++
  dueWhen (s.retryDue i) (.retryHoldEnd i)

/-- The expiries of a bay that are due. -/
def State.dueBay (s : State) (b : BayNo) : List Instr :=
  dueWhen (s.expiring b (·.confirm) [.transferOut]).isSome (.confirmExpiryOut b) ++
  dueWhen (s.expiring b (·.confirm) [.transferBack]).isSome (.confirmExpiryBack b) ++
  dueWhen (s.expiring b (·.sample) [.equalising, .held]).isSome (.sampleTimerExpiry b) ++
  dueWhen (s.expiring b (·.window) [.equalising]).isSome (.windowExpiry b) ++
  dueWhen (s.expiring b (·.duration) [.equalising]).isSome (.durationExpiry b) ++
  dueWhen (s.expiring b (·.hold) [.held]).isSome (.holdTimerExpiry b)

/-- The fill timer has reached its expiry in this round state. -/
def State.fillDue (s : State) (st : RoundState) : Bool :=
  s.water.round.state = st && s.water.round.fillTimer.due && (st ≠ .filling || s.water.round.fill.isSome)

/-- Everything that is due, in the order in which the model takes it: offers and requests, the hour tick, the strings, the
bays, the gas timers and the fill timer, and last the transmissions in progress, each of which ends well within a second
(R1; DEDUCED, unsafe: notes/assumptions/11.md). DESIGN CHOICE, unsafe (notes/assumptions/10.md): the manual admits every
order. -/
def State.dueCommands (s : State) : List Instr :=
  dueWhen s.offerReady .chainLocalOfferTaken ++ s.dueManagement ++ dueWhen s.clock.hourDue .hourTick ++
  allStrings.flatMap s.dueString ++ allBays.flatMap s.dueBay ++
  dueWhen (s.gas.sensor = .live && s.gas.lost.due) .lostTimerExpiry ++
  dueWhen (s.gas.fan = .runOn && s.gas.runOn.due) .runOnExpiry ++
  dueWhen (s.fillDue .filling) .fillTimerExpiry ++ dueWhen (s.fillDue .ending) .endingFillExpiry ++
  dueWhen s.fp.trunk.sending.isSome (.transmissionEnd .trunk) ++
  dueWhen s.fp.chain.sending.isSome (.transmissionEnd .chain)

/-- The command the model takes next on an empty queue; none when the second may pass. -/
def State.dueCommand (s : State) : Option Instr := s.dueCommands.head?

end Sys2Proof.Machine
end

