-- ==== Sys2Proof/Machine/Dispatch.lean ====
section
/-! DEFINITION. One arm per command; each is one call of its meaning. -/

namespace Sys2Proof.Machine

open Sys2Proof

def exec (i : Instr) (s : State) : Host.Outcome State Fault Refusal :=
  match i with
  | .coldReset node baud => Sys2Proof.Machine.execColdReset node baud s
  | .lineError port bytes => Sys2Proof.Machine.execLineError port bytes s
  | .badFrame port bytes => Sys2Proof.Machine.execBadFrame port bytes s
  | .mgmtRequest src payload => Sys2Proof.Machine.execMgmtRequest src payload s
  | .trunkFrameForward dst src kind payload => Sys2Proof.Machine.execTrunkFrameForward dst src kind payload s
  | .heldAddressRefusal dst src kind payload => Sys2Proof.Machine.execHeldAddressRefusal dst src kind payload s
  | .chainFrameForward dst src kind payload => Sys2Proof.Machine.execChainFrameForward dst src kind payload s
  | .cellReport dst src samples => Sys2Proof.Machine.execCellReport dst src samples s
  | .stringReport dst src current voltage => Sys2Proof.Machine.execStringReport dst src current voltage s
  | .levelReport dst src position level => Sys2Proof.Machine.execLevelReport dst src position level s
  | .valveReport dst src channel code dispensed => Sys2Proof.Machine.execValveReport dst src channel code dispensed s
  | .switchReport dst src position => Sys2Proof.Machine.execSwitchReport dst src position s
  | .chargerReport dst src output state voltage current => Sys2Proof.Machine.execChargerReport dst src output state voltage current s
  | .gasReport dst src concentration status => Sys2Proof.Machine.execGasReport dst src concentration status s
  | .transmissionEnd port => Sys2Proof.Machine.execTransmissionEnd port s
  | .chainLocalOfferTaken => Sys2Proof.Machine.execChainLocalOfferTaken s
  | .mgmtReplyTaken => Sys2Proof.Machine.execMgmtReplyTaken s
  | .tableWriteSite => Sys2Proof.Machine.execTableWriteSite s
  | .tableWriteSourceMap => Sys2Proof.Machine.execTableWriteSourceMap s
  | .tableWriteString => Sys2Proof.Machine.execTableWriteString s
  | .tableWriteCell => Sys2Proof.Machine.execTableWriteCell s
  | .tableWriteProfile => Sys2Proof.Machine.execTableWriteProfile s
  | .tableRead => Sys2Proof.Machine.execTableRead s
  | .restore => Sys2Proof.Machine.execRestore s
  | .jobStart => Sys2Proof.Machine.execJobStart s
  | .jobCancel => Sys2Proof.Machine.execJobCancel s
  | .setCeiling => Sys2Proof.Machine.execSetCeiling s
  | .setTank => Sys2Proof.Machine.execSetTank s
  | .fetchResult => Sys2Proof.Machine.execFetchResult s
  | .snapshot => Sys2Proof.Machine.execSnapshot s
  | .readSnapshot => Sys2Proof.Machine.execReadSnapshot s
  | .survey => Sys2Proof.Machine.execSurvey s
  | .sweep => Sys2Proof.Machine.execSweep s
  | .release => Sys2Proof.Machine.execRelease s
  | .clearTrip => Sys2Proof.Machine.execClearTrip s
  | .status => Sys2Proof.Machine.execStatus s
  | .restart => Sys2Proof.Machine.execRestart s
  | .warmRestart => Sys2Proof.Machine.execWarmRestart s
  | .unknownRequest => Sys2Proof.Machine.execUnknownRequest s
  | .hourTick => Sys2Proof.Machine.execHourTick s
  | .censusExpiry string => Sys2Proof.Machine.execCensusExpiry string s
  | .presenceTimeout string => Sys2Proof.Machine.execPresenceTimeout string s
  | .sweepTimeout string => Sys2Proof.Machine.execSweepTimeout string s
  | .confirmExpiryOut bay => Sys2Proof.Machine.execConfirmExpiryOut bay s
  | .confirmExpiryBack bay => Sys2Proof.Machine.execConfirmExpiryBack bay s
  | .sampleTimerExpiry bay => Sys2Proof.Machine.execSampleTimerExpiry bay s
  | .windowExpiry bay => Sys2Proof.Machine.execWindowExpiry bay s
  | .durationExpiry bay => Sys2Proof.Machine.execDurationExpiry bay s
  | .holdTimerExpiry bay => Sys2Proof.Machine.execHoldTimerExpiry bay s
  | .settleExpiry string => Sys2Proof.Machine.execSettleExpiry string s
  | .retryHoldEnd string => Sys2Proof.Machine.execRetryHoldEnd string s
  | .lostTimerExpiry => Sys2Proof.Machine.execLostTimerExpiry s
  | .runOnExpiry => Sys2Proof.Machine.execRunOnExpiry s
  | .fillTimerExpiry => Sys2Proof.Machine.execFillTimerExpiry s
  | .endingFillExpiry => Sys2Proof.Machine.execEndingFillExpiry s
  | .tripInputLow => Sys2Proof.Machine.execTripInputLow s
  | .tripInputHigh => Sys2Proof.Machine.execTripInputHigh s
  | .tripFilterSample level => Sys2Proof.Machine.execTripFilterSample level s

end Sys2Proof.Machine
end

