-- ==== Sys2Proof/Safety.lean ====
section
/-! DEFINITION. The terms in which claims about the part are made: the laws of the part, and the situations in which a
command finds its moment. -/

namespace Sys2Proof.Machine

open Sys2Proof

/-! ## The laws of the part -/

/-- Every queue is within its capacity (R10, R14, R162). -/
structure WithinCapacity (s : State) : Prop where
  chainForward : s.fp.chain.forwardQ.length ≤ 16
  chainLocal : s.fp.chain.localQ.length ≤ 8
  trunkForward : s.fp.trunk.forwardQ.length ≤ 16
  trunkLocal : s.fp.trunk.localQ.length ≤ 8
  input : s.mgmt.input.length ≤ 4
  results : s.mgmt.results.length ≤ 16

/-- The list never holds two entries for the same string and kind (R62). -/
def OneEntryPerPair (s : State) : Prop := s.requests.Pairwise fun a b => ¬(a.string = b.string ∧ a.kind = b.kind)

/-- An address appears in the Hold Set at most once (R150). -/
def OneHoldPerAddress (s : State) : Prop := s.holds.Pairwise fun a b => a.addr ≠ b.addr

/-- The current limits of the BUSY bays never exceed the charger budget (R55), in mA. -/
def WithinBudget (s : State) : Prop := s.busySum ≤ s.site.budget * 100

/-- STAT is asserted while the gas state is not NORMAL or a string is ISOLATED (R122). -/
def StatDriven (s : State) : Prop := s.gas.stat = true ↔ s.gas.state ≠ .normal ∨ 0 < s.gas.isolated

/-- Every agree count lies between 0 and 2 (R31). -/
structure AgreeCountsInRange (s : State) : Prop where
  ov : ∀ i p, (s.cell i p).ov.agree ≤ 2
  ot : ∀ i p, (s.cell i p).ot.agree ≤ 2
  level : ∀ i p, (s.cell i p).levelQ.agree ≤ 2
  gas : s.gas.qualifier.agree ≤ 2
  filter : s.gas.filterAgree ≤ 2

/-- Strings, bays and the round belong together (R82 to R84, R130): a bay names a string exactly when the string names the
bay; a bay is FREE exactly when it names none; the string of a BUSY bay is in BASELINE to TRANSFER_BACK and that of a BLOCKED
bay ISOLATED, and every string in those states has a bay; bay 1 is out of FREE only when the site record puts two bays in
use; and a string is WATERING exactly when it is the round's, which the round has none of exactly while IDLE. -/
structure BaysLinked (s : State) : Prop where
  names : ∀ b i, (s.bay b).string = some i ↔ (s.str i).bay = some b
  free : ∀ b, (s.bay b).state = .free ↔ (s.bay b).string = none
  busy : ∀ b i, (s.bay b).string = some i → (s.bay b).state = .busy →
    (s.str i).state ∈ [StringState.baseline, .transferOut, .equalising, .held, .transferBack]
  blocked : ∀ b i, (s.bay b).string = some i → (s.bay b).state = .blocked → (s.str i).state = .isolated
  served : ∀ i, (s.str i).state ∈ [StringState.baseline, .transferOut, .equalising, .held, .transferBack, .isolated] →
    (s.str i).bay ≠ none
  inUse : (s.bay 1).state ≠ .free → s.site.bays = 2
  watered : ∀ i, s.water.round.string = some i ↔ (s.str i).state = .watering
  idle : s.water.round.state = .idle ↔ s.water.round.string = none

/-- No evaluation is left due: each one is made in the action that triggers it (R75). -/
def NoEvaluationDue (s : State) : Prop := s.evalDue = false

/-! ## The moments of a command -/

/-- MU is IDLE, this request stands at the head of its queue with these behind it, and no evaluation is left due. -/
structure AtHead (s : State) (src : Byte) (payload : List Byte) (rest : List Request) : Prop where
  idle : s.mgmt.mu = .idle
  head : s.mgmt.input = ⟨src, payload⟩ :: rest
  settled : NoEvaluationDue s

/-- The state with this MU input queue. -/
def State.withInput (s : State) (l : List Request) : State := { s with mgmt := { s.mgmt with input := l } }

/-- A report from this source reaches Intake: the chain receiver is in HUNT, the destination is not invalid, the source is
mapped with this entry and role and is no node address (R5, R7, R23). -/
structure ReportArrives (s : State) (dst src : Byte) (e : MapEntry) (role : Role) : Prop where
  hunt : s.fp.chain.rx = .hunt
  dstOk : isInvalidDst dst = false
  srcOk : isNodeAddr src = false
  mapped : s.mapped src = some e
  roleOk : e.role = role
  settled : NoEvaluationDue s

/-- A bay with its string in this state: the bay names the string and the string the bay. -/
structure Working (s : State) (b : BayNo) (i : StringNo) (st : StringState) : Prop where
  busy : (s.bay b).state = .busy
  names : (s.bay b).string = some i
  named : (s.str i).bay = some b
  state : (s.str i).state = st

/-- The job of string `i` in bay `b` has ended in BASELINE with end `e`, between `s` and `t` (R84, R101, R107, R109, R120, R156):
the bay and the string's bay field are cold, the switch hold is gone, and the charger hold with it when no other bay is out of
FREE; every other hold but the fan's is kept; the result is the last one posted. -/
structure EndsInBaseline (s t : State) (b : BayNo) (i : StringNo) (e : EndRec) : Prop where
  float : (t.str i).state = .float
  unbound : (t.str i).bay = none
  free : t.bay b = {}
  switchHold : ⟨(s.str i).cfg.switch, .switch i⟩ ∉ t.holds
  chargerHold : (∀ c, c ≠ b → (s.bay c).state = .free) → ⟨s.site.charger, .charger⟩ ∉ t.holds
  kept : ∀ h ∈ s.holds, h.holder ≠ .fan → h ≠ ⟨(s.str i).cfg.switch, .switch i⟩ →
    (h = ⟨s.site.charger, .charger⟩ → ∃ c, c ≠ b ∧ (s.bay c).state ≠ .free) → h ∈ t.holds
  counted : t.gas.bayStrings = s.gas.bayStrings - 1
  posted : ∃ r peak, t.mgmt.results.getLast? = some r ∧ r.string = i ∧ r.cls = e.cls ∧ r.cause = e.cause ∧
    r.reduced = (s.bay b).reduced ∧ r.isolated = false ∧ r.startMinute = (s.str i).startMinute ∧
    r.part = .equalise (s.bay b).eqSetpoint ((s.bay b).limit / 100) ((s.str i).jobCharge / 36000) (s.bay b).startSpread
      (s.spreadOf i) peak (s.bay b).plateau

/-- The frame of a report goes on by the action of its entry (R7). -/
def State.passOn (s : State) (e : MapEntry) (f : Frame) : State := if e.pass then s.forwardUp f else s

end Sys2Proof.Machine
end

