-- ==== Sys2Proof/Certificates/Slice0/Obligations.lean ====
section
/-! DEFINITION. The statements for the provers. Each docstring names the rule of spec/ the statement formalises, or says that
it is the model's choice and names the log entry. -/

open Sys2Proof Sys2Proof.Machine

/-! ## The step and the clock -/

/-- The command at the front of the queue is run with the queue's rest. -/
def Obligations.StepRunsFrontCommand : Prop :=
  ∀ (c : Instr) (s : State), step { s with pending := c :: s.pending } = exec c s

/-- R24, R85, R178: on an empty queue the part goes on by itself, with the command that is due or else one second (the model's
choice, notes/assumptions/1.md). One second counts the second counter up, raises the hour tick at each multiple of 3,600,
takes one from every running timer, and puts the site's sample timeout in force for the census limit; a stopped or paused
timer keeps what it has; at 4,294,967,294 the counter holds.
That the timers hold with it is the model's choice (notes/assumptions/2.md). -/
def Obligations.SecondStepsRunningTimers : Prop :=
  ∀ s : State,
    (s.pending = [] → (∀ c, s.dueCommand = some c → step s = exec c s) ∧ (s.dueCommand = none → step s = .next s.tick)) ∧
    (s.second < 4294967294 →
      s.tick.second = s.second + 1 ∧
      (s.tick.clock.hourDue = true ↔ s.clock.hourDue = true ∨ (s.second + 1) % 3600 = 0) ∧
      (∀ b, ∀ timer ∈ [Bay.confirm, Bay.sample, Bay.window, Bay.duration, Bay.hold],
        (∀ n, timer (s.bay b) = .running (n + 1) → timer (s.tick.bay b) = .running n) ∧
        (timer (s.bay b) = .stopped → timer (s.tick.bay b) = .stopped) ∧
        (∀ n, timer (s.bay b) = .paused n → timer (s.tick.bay b) = .paused n)) ∧
      (∀ i n, (s.str i).settle = .running (n + 1) → (s.tick.str i).settle = .running n) ∧
      (∀ i l n, (s.str i).sweep = .sweeping l (.running (n + 1)) → (s.tick.str i).sweep = .sweeping l (.running n)) ∧
      (∀ n, s.gas.lost = .running (n + 1) → s.tick.gas.lost = .running n) ∧
      (∀ n, s.gas.runOn = .running (n + 1) → s.tick.gas.runOn = .running n) ∧
      (∀ n, s.water.round.fillTimer = .running (n + 1) → s.tick.water.round.fillTimer = .running n) ∧
      s.tick.silenceTimeout = s.site.sampleTimeout ∧ s.tick.fp = s.fp ∧ s.tick.requests = s.requests ∧
      s.tick.holds = s.holds ∧ s.tick.mgmt = s.mgmt) ∧
    (s.second = 4294967294 → s.tick = s)

/-! ## Reset -/

/-- R185: a cold reset starts the part at its cold state with the straps as read; every queue and waiting offer is empty, the
counters are 0, the Hold Set is empty, every string is ABSENT, every bay FREE, the round IDLE, the gas state NORMAL, the
trip filter HIGH with count 0, the fan OFF and STAT released. The queue of commands is the model's own and stays
(notes/assumptions/3.md). -/
def Obligations.ColdResetStartsAtColdState : Prop :=
  ∀ (node : BitVec 3) (baud : PinLevel) (s : State), ∃ t,
    exec (.coldReset node baud) s = .next t ∧ t.node = node ∧ t.baud = baud ∧ t.pending = s.pending ∧
    t = { State.reset with node := node, baud := baud, pending := s.pending } ∧
    (∀ p, (t.fp.port p).localQ = [] ∧ (t.fp.port p).forwardQ = [] ∧ (t.fp.port p).sending = none ∧
      (t.fp.port p).rx = .hunt ∧ (t.fp.port p).mark = .forwardServed ∧ (t.fp.port p).badFrames = 0) ∧
    t.fp.offers = [] ∧ t.fp.upDrops = 0 ∧ t.fp.downDrops = 0 ∧ t.fp.unmapped = 0 ∧
    t.second = 0 ∧ t.minute = 0 ∧ t.holds = [] ∧ t.requests = [] ∧ t.ceiling = 0 ∧ t.sourceMap = [] ∧
    (∀ i, (t.str i).state = .absent ∧ (t.str i).presence = .unknown ∧ (t.str i).q = 0 ∧ (t.str i).age = 0 ∧
      (t.str i).retryHold = none ∧ (t.str i).lastMean = none ∧ (t.str i).sweep = .idle ∧ (t.str i).settle = .stopped) ∧
    (∀ b, t.bay b = {}) ∧ t.water.round.state = .idle ∧ t.water.tank = 0 ∧ t.water.reserve = 0 ∧
    t.water.pendingClose = none ∧ t.gas.state = .normal ∧ t.gas.reason = .none ∧ t.gas.sensor = .none ∧
    t.gas.filter = .high ∧ t.gas.filterAgree = 0 ∧ t.gas.fan = .off ∧ t.gas.stat = false ∧
    t.mgmt.mu = .idle ∧ t.mgmt.input = [] ∧ t.mgmt.results = [] ∧ (∀ i : StringNo, t.mgmt.latches[i] = none)

/-- Right after reset every law of the part holds. -/
def Obligations.LawsHoldAtReset : Prop :=
  WithinCapacity State.reset ∧ OneEntryPerPair State.reset ∧ OneHoldPerAddress State.reset ∧ WithinBudget State.reset ∧
  StatDriven State.reset ∧ AgreeCountsInRange State.reset ∧ BaysLinked State.reset ∧
  NoEvaluationDue State.reset

/-! ## Frames on the line -/

/-- R2, R3, R4: for every frame of up to 40 payload bytes, the receiver in HUNT that is given the frame's bytes as R2 puts
them on the line receives exactly that frame, and the frame is dispatched. -/
def Obligations.FrameReadBackByReceiver : Prop :=
  ∀ (s : State) (p : Port) (dst src kind : Byte) (payload : List Byte),
    (s.fp.port p).rx = .hunt → payload.length ≤ 40 →
    s.frameIn p (mkFrame dst src kind payload) = s.received p (mkFrame dst src kind payload)

/-- R16, R17, R19: the payload of every well-formed report is read back as the numbers and codes it carries; and the
configuration body that a TABLE_READ returns, written back by a TABLE_WRITE, carries the same configuration: for the Site
record, a Profile, a String Table record, a Source Map entry and a Cell Table record. -/
def Obligations.PayloadsReadBack : Prop :=
  (∀ samples : List CellSample, 1 ≤ samples.length → samples.length ≤ 4 →
    parseReport 0x10 (cellPayload samples) = some (.cell samples)) ∧
  (∀ (current : BitVec 32) (voltage : BitVec 16),
    parseReport 0x11 (stringPayload current voltage) = some (.string current.toInt voltage.toNat)) ∧
  (∀ (position : Byte) (code : LevelCode),
    parseReport 0x12 (levelPayload position code) = some (.level position.toNat code)) ∧
  (∀ (channel : Byte) (code : ValveCode) (ml : BitVec 16),
    parseReport 0x13 (valvePayload channel code ml) = some (.valve channel code ml.toNat)) ∧
  (∀ position : SwitchCode, parseReport 0x14 (switchPayload position) = some (.switch position)) ∧
  (∀ (output : Byte) (state : ChargerCode) (voltage current : BitVec 16),
    parseReport 0x15 (chargerPayload output state voltage current) =
      some (.charger output.toNat state voltage.toNat current.toNat)) ∧
  (∀ (concentration : BitVec 16) (status : Byte),
    parseReport 0x16 (gasPayload concentration status) = some (.gas concentration.toNat (status.getLsbD 0))) ∧
  (∀ x : Site, x.inRange = true → readSite (siteBody x) = x) ∧
  (∀ x : Profile, x.inRange = true → readProfile (profileBody x) = x) ∧
  (∀ x : StringConfig, x.cellCount ≤ 32 → x.capacity ≤ 3000 → x.level ≤ 7 → x.interval ≤ 8760 → x.threshold ≤ 200000 →
    readString (stringBody x) = x) ∧
  (∀ e : MapEntry, (e.role.hasString = true ↔ e.string.isSome = true) →
    (match e.block with
      | none => e.role ≠ .cellMonitor
      | some (first, count) => e.role = .cellMonitor ∧ first ≤ 31 ∧ 1 ≤ count ∧ count ≤ 4 ∧ first + count ≤ 32) →
    readEntry e.addr (mapBody (some e)) = some e) ∧
  (∀ c : Cell, (∀ b, c.binding = some b → b.addr ≠ 0x00) → (∀ v, c.override.volume = some v → 10 ≤ v ∧ v ≤ 2000) →
    (∀ v, c.override.maxOpen = some v → 1 ≤ v ∧ v ≤ 120) → (∀ v, c.override.duty = some v → 10 ≤ v ∧ v ≤ 100) →
    readBinding (cellBody c) = c.binding ∧ readOverride (cellBody c) = c.override)

/-- R5, R6 (TRUNK_FRAME_FORWARD): a frame at the trunk port whose destination is valid, not the own node, and not a held field
address of a command kind, joins the chain-forward queue; when that queue holds 16 frames it is dropped and the down drop
count rises by one. Nothing else changes. -/
def Obligations.TrunkFrameForwardedDown : Prop :=
  ∀ (s : State) (dst src kind : Byte) (payload : List Byte),
    s.fp.trunk.rx = .hunt → payload.length ≤ 40 → isInvalidDst dst = false → dst ≠ s.own →
    (isFieldAddr dst = true → isCommandKind kind = true → s.holderOf dst = none) →
    (s.fp.chain.forwardQ.length < 16 →
      exec (.trunkFrameForward dst src kind payload) s =
        .next (s.modPort .chain (·.pushForward (mkFrame dst src kind payload)))) ∧
    (16 ≤ s.fp.chain.forwardQ.length →
      exec (.trunkFrameForward dst src kind payload) s =
        .next { s with fp := { s.fp with downDrops := min (s.fp.downDrops + 1) 65535 } })

/-- R6, R14 (MGMT_REQUEST): a management request for the own node joins the MU input queue at its tail; when that queue holds
4 requests it is dropped and the down drop count rises by one. Nothing else changes. -/
def Obligations.ManagementRequestQueued : Prop :=
  ∀ (s : State) (src : Byte) (payload : List Byte), s.fp.trunk.rx = .hunt → payload.length ≤ 40 →
    (s.mgmt.input.length < 4 →
      exec (.mgmtRequest src payload) s = .next (s.withInput (s.mgmt.input ++ [⟨src, payload⟩]))) ∧
    (4 ≤ s.mgmt.input.length →
      exec (.mgmtRequest src payload) s =
        .next { s with fp := { s.fp with downDrops := min (s.fp.downDrops + 1) 65535 } })

/-- R8 (HELD_ADDRESS_REFUSAL): a trunk command to a held field address is not queued; a REJECT to its SRC with the refused
DST, KIND and holder code joins the trunk-local queue, or is dropped and counted when that queue is full. That it is dropped
also while a slot is free and a reply waits for it is the model's choice (notes/assumptions/13.md). -/
def Obligations.HeldCommandRefused : Prop :=
  ∀ (s : State) (dst src kind : Byte) (payload : List Byte) (h : Holder),
    s.fp.trunk.rx = .hunt → payload.length ≤ 40 → isFieldAddr dst = true → isCommandKind kind = true →
    s.holderOf dst = some h →
    (s.fp.trunk.localQ.length < 8 → s.mgmt.mu = .idle →
      exec (.heldAddressRefusal dst src kind payload) s =
        .next (s.modPort .trunk (·.pushLocal (mkFrame src s.own 0x32 [dst, kind, holderByte h])))) ∧
    (8 ≤ s.fp.trunk.localQ.length ∨ s.mgmt.mu ≠ .idle →
      exec (.heldAddressRefusal dst src kind payload) s =
        .next { s with fp := { s.fp with upDrops := min (s.fp.upDrops + 1) 65535 } })

/-- R7 (CHAIN_FRAME_FORWARD): a chain frame from a node address joins the trunk-forward queue and is not counted; a frame that
Intake does not take in is counted as unmapped, and goes on unless its source is mapped with action ABSORB; a frame that
finds the trunk-forward queue with 16 frames is dropped and the up drop count rises by one. -/
def Obligations.ChainFrameForwardedUp : Prop :=
  ∀ (s : State) (dst src kind : Byte) (payload : List Byte),
    s.fp.chain.rx = .hunt → payload.length ≤ 40 → isInvalidDst dst = false →
    let f := mkFrame dst src kind payload
    let counted := { s with fp := { s.fp with unmapped := min (s.fp.unmapped + 1) 65535 } }
    (isNodeAddr src = true → s.fp.trunk.forwardQ.length < 16 →
      exec (.chainFrameForward dst src kind payload) s = .next (s.modPort .trunk (·.pushForward f))) ∧
    (isNodeAddr src = true → 16 ≤ s.fp.trunk.forwardQ.length →
      exec (.chainFrameForward dst src kind payload) s =
        .next { s with fp := { s.fp with upDrops := min (s.fp.upDrops + 1) 65535 } }) ∧
    (isNodeAddr src = false →
      (s.mapped src = none ∨
        ∃ e, s.mapped src = some e ∧ e.pass = true ∧ (roleKind e.role ≠ some kind ∨ parseReport kind payload = none)) →
      (s.fp.trunk.forwardQ.length < 16 →
        exec (.chainFrameForward dst src kind payload) s = .next (counted.modPort .trunk (·.pushForward f))) ∧
      (16 ≤ s.fp.trunk.forwardQ.length →
        exec (.chainFrameForward dst src kind payload) s =
          .next { counted with fp := { counted.fp with upDrops := min (s.fp.upDrops + 1) 65535 } })) ∧
    (isNodeAddr src = false →
      (∃ e, s.mapped src = some e ∧ e.pass = false ∧ (roleKind e.role ≠ some kind ∨ parseReport kind payload = none)) →
      exec (.chainFrameForward dst src kind payload) s = .next counted)

/-- R3 to R6, R15 (BAD_FRAME): a frame with LEN above 40, with a CRC that does not match, with an invalid destination, or at
the trunk port for the own node with a kind other than 30h, adds one to the port's bad-frame count and does nothing else. -/
def Obligations.BadFrameCounted : Prop :=
  ∀ (s : State) (p : Port) (dst src kind : Byte),
    (s.fp.port p).rx = .hunt →
    let counted (p : Port) := s.modPort p fun q => { q with badFrames := min (q.badFrames + 1) 65535 }
    (∀ len : Byte, 40 < len.toNat → exec (.badFrame p [0xA5, dst, src, kind, len]) s = .next (counted p)) ∧
    (∀ (payload : List Byte) (high low : Byte), payload.length ≤ 40 →
      high.toNat * 256 + low.toNat ≠ (crcOf (coveredBytes dst src kind payload)).toNat →
      exec (.badFrame p (0xA5 :: coveredBytes dst src kind payload ++ [high, low])) s = .next (counted p)) ∧
    (∀ payload : List Byte, payload.length ≤ 40 → isInvalidDst dst = true →
      exec (.badFrame p (wireBytes (mkFrame dst src kind payload))) s = .next (counted p)) ∧
    (∀ payload : List Byte, payload.length ≤ 40 → p = .trunk → dst = s.own → kind ≠ 0x30 →
      exec (.badFrame p (wireBytes (mkFrame dst src kind payload))) s = .next (counted p))

/-- R3, R15 (LINE_ERROR): after the bytes before it, a byte in error is discarded in HUNT without count; in any other state it
drops the partly gathered frame, adds one to the port's bad-frame count and returns the receiver to HUNT. -/
def Obligations.LineErrorDropsPartFrame : Prop :=
  ∀ (s : State) (p : Port) (bytes : List Byte),
    let r := s.bytesIn p bytes
    ((r.fp.port p).rx = .hunt → exec (.lineError p bytes) s = .next r) ∧
    ((r.fp.port p).rx ≠ .hunt →
      exec (.lineError p bytes) s =
        .next (r.modPort p fun q => { q with rx := .hunt, badFrames := min (q.badFrames + 1) 65535 }))

/-! ## Transmission and waiting offers -/

/-- R10, R13 (TRANSMISSION_END): when the frame in transmission has been sent, the arbiter starts the head of the only queue
that holds a frame, or, of two, of the queue that is not the last-served mark, and moves the mark to it; with both queues
empty the transmitter becomes IDLE. That ending a transmission that is not there changes nothing, and that no waiting offer or
reply is taken in the same action, are the model's choices (notes/assumptions/8.md, notes/assumptions/13.md). A frame that
joins a queue of an idle port with both queues empty is started at once; on a port that is SENDING it waits at its queue's
tail. -/
def Obligations.ArbiterChoosesFrame : Prop :=
  (∀ (s : State) (p : Port), (s.fp.port p).sending = none → exec (.transmissionEnd p) s = .next s) ∧
  (∀ (s : State) (p : Port) (sent : Frame), (s.fp.port p).sending = some sent →
    let q := s.fp.port p
    let after (q' : PortState) := exec (.transmissionEnd p) s = .next { s with fp := s.fp.setPort p q' }
    (q.localQ = [] → q.forwardQ = [] → after { q with sending := none }) ∧
    (∀ f l, q.localQ = f :: l → q.forwardQ = [] ∨ q.mark = .forwardServed →
      after { q with sending := some f, mark := .localServed, localQ := l }) ∧
    (∀ g r, q.forwardQ = g :: r → q.localQ = [] ∨ q.mark = .localServed →
      after { q with sending := some g, mark := .forwardServed, forwardQ := r })) ∧
  (∀ (q : PortState) (f : Frame),
    (q.sending = none → q.localQ = [] → q.forwardQ = [] →
      q.pushLocal f = { q with sending := some f, mark := .localServed } ∧
      q.pushForward f = { q with sending := some f, mark := .forwardServed }) ∧
    (∀ g, q.sending = some g →
      q.pushLocal f = { q with localQ := q.localQ ++ [f] } ∧ q.pushForward f = { q with forwardQ := q.forwardQ ++ [f] }))

/-- R11, R86, R88, R102, R125, R133 (CHAIN_LOCAL_OFFER_TAKEN): with a free chain-local slot the oldest waiting offer becomes a
frame of that queue and its activity goes on past the send: a fan command does no more; a VALVE_CMD OPEN makes the fill
OUTSTANDING with its timer at max open + 5 s; a VALVE_CMD CLOSE is no longer pending; a bay's last SWITCH_CMD to EQUALISE
or FLOAT starts the confirm timer; the second command of a bay's step is offered; the monitor of a SAMPLE_NOW is asked. -/
def Obligations.OldestOfferTaken : Prop :=
  ∀ (s : State) (o : Offer) (rest : List Offer),
    s.fp.offers = o :: rest → s.fp.chain.localQ.length < 8 → NoEvaluationDue s →
    let taken := { s with fp := { s.fp with offers := rest } }.modPort .chain (·.pushLocal (cmdFrame s.own o.cmd))
    (∃ t, exec .chainLocalOfferTaken s = .next t) ∧
    (o.activity = .fan → exec .chainLocalOfferTaken s = .next taken) ∧
    (∀ a ch pull duty mo f, o.activity = .watering → o.cmd = .valveOpen a ch pull duty mo → s.water.round.fill = some f →
      exec .chainLocalOfferTaken s =
        .next (taken.modRound fun r =>
          { r with fill := some { f with phase := .outstanding }, fillTimer := .running (f.maxOpen + 5) })) ∧
    (∀ a ch, o.activity = .watering → o.cmd = .valveClose a ch →
      ∃ t, exec .chainLocalOfferTaken s = .next t ∧ t.water.pendingClose = none) ∧
    (∀ b a target, o.activity = .bay b → o.cmd = .switch a target → target ≠ .opened → (s.bay b).second = none →
      exec .chainLocalOfferTaken s =
        .next (taken.modBay b fun r => { r with confirm := .running s.site.confirmTime })) ∧
    (∀ b d, o.activity = .bay b → (s.bay b).second = some d →
      exec .chainLocalOfferTaken s =
        .next (((taken.startConfirm b o.cmd).modBay b fun r => { r with second := none }).offerBayLast b d)) ∧
    (∀ i a, o.activity = .sweep i → o.cmd = .sampleNow a →
      ∃ t, exec .chainLocalOfferTaken s = .next t ∧
        (t.str i).sweep.owed.map (·.addr) = (s.str i).sweep.owed.map (·.addr) ∧
        ∀ x ∈ (t.str i).sweep.owed, x.addr = a → x.asked = true)

/-! ## Management requests -/

/-- R12, R175 (MGMT_REPLY_TAKEN): the reply is addressed to the SRC of the request and opens with the request code and the
reply code; the trunk-local queue takes it when it has a free slot, and otherwise MU is WAITING with the reply held. A
waiting reply is taken when the queue has a free slot, and MU is IDLE again; without one, and with no reply waiting,
nothing changes. -/
def Obligations.ReplyTakenOrHeld : Prop :=
  (∀ (s : State) (src code : Byte) (r : Reply),
    let f := mkFrame src s.own 0x31 (code :: replyCodeByte r.code :: r.data)
    (s.fp.trunk.localQ.length < 8 → s.sendReply src code r = s.modPort .trunk (·.pushLocal f)) ∧
    (8 ≤ s.fp.trunk.localQ.length →
      s.sendReply src code r = { s with mgmt := { s.mgmt with mu := .waiting f false } })) ∧
  (∀ (s : State) (reply : Frame), s.mgmt.mu = .waiting reply false →
    (s.fp.trunk.localQ.length < 8 →
      exec .mgmtReplyTaken s =
        .next ({ s with mgmt := { s.mgmt with mu := .idle } }.modPort .trunk (·.pushLocal reply))) ∧
    (8 ≤ s.fp.trunk.localQ.length → exec .mgmtReplyTaken s = .next s)) ∧
  (∀ s : State, s.mgmt.mu = .idle → exec .mgmtReplyTaken s = .next s)

/-- R113, R121, R177, R178 (TABLE_WRITE_SITE): a Site record out of range is answered BAD_RANGE and one in conflict BAD_STATE,
with no effect; an accepted one replaces the record, acts on a changed fan address by R121 and then on a changed gas sensor
address by R113, and an evaluation follows; the census limit keeps the sample timeout in force. The order of those two is the
model's choice (notes/assumptions/17.md).
That an evaluation is made before the reply is offered is read from R75 and R175 (DEDUCED, notes/assumptions/15.md). -/
def Obligations.SiteRecordWritten : Prop :=
  (∀ x : Site, x.inRange = true ↔
    1 ≤ x.bays ∧ x.bays ≤ 2 ∧ x.budget ≤ 4000 ∧ 50 ≤ x.holdThreshold ∧ x.holdThreshold ≤ 1000 ∧
    x.releaseThreshold < x.holdThreshold ∧ 10 ≤ x.holdLimit ∧ x.holdLimit ≤ 240 ∧ x.runOn ≤ 120 ∧
    10 ≤ x.fillVolume ∧ x.fillVolume ≤ 2000 ∧ 50 ≤ x.pullIn ∧ x.pullIn ≤ 2000 ∧ 10 ≤ x.duty ∧ x.duty ≤ 100 ∧
    1 ≤ x.maxOpen ∧ x.maxOpen ≤ 120 ∧ 5 ≤ x.sampleTimeout ∧ x.sampleTimeout ≤ 120 ∧ 10 ≤ x.staleAge ∧ x.staleAge ≤ 600 ∧
    2 ≤ x.confirmTime ∧ x.confirmTime ≤ 60 ∧ 1 ≤ x.sweepTimeout ∧ x.sweepTimeout ≤ 30) ∧
  ∀ (s : State) (src : Byte) (rest : List Request) (body : List Byte), body.length = 23 →
    AtHead s src ([0x01, 0x01] ++ body) rest →
    let u := s.withInput rest
    let x := readSite body
    let conflict :=
      ((x.bays ≠ s.site.bays ∨ x.charger ≠ s.site.charger) ∧ ∃ b, (s.bay b).state ≠ .free) ∨ x.budget * 100 < s.busySum ∨
      (x.charger ≠ 0 ∧ ∀ e, s.mapped x.charger = some e → e.role ≠ .charger) ∨
      (x.gasSensor ≠ 0 ∧ ∀ e, s.mapped x.gasSensor = some e → e.role ≠ .gasSensor) ∨
      (x.fan ≠ 0 ∧ ∀ e, s.mapped x.fan = some e → e.role ≠ .fan)
    (x.inRange = false → exec .tableWriteSite s = .next (u.sendReply src 0x01 { code := .badRange })) ∧
    (x.inRange = true → conflict → exec .tableWriteSite s = .next (u.sendReply src 0x01 { code := .badState })) ∧
    (x.inRange = true → ¬conflict →
      let written := { u with site := x }
      let fanDone := if x.fan = s.site.fan then written else written.fanMoved s.site.fan
      let done := if x.gasSensor = s.site.gasSensor then fanDone else fanDone.sensorMoved
      exec .tableWriteSite s =
        .next (({ done with evalDue := false }.evaluate).sendReply src 0x01 { code := .ok })) ∧
    (x.inRange = true → ¬conflict → ∃ t : State, exec .tableWriteSite s = .next (t.sendReply src 0x01 { code := .ok }) ∧
      t.site = x ∧ t.silenceTimeout = s.silenceTimeout ∧
      t.profiles = s.profiles ∧ t.sourceMap = s.sourceMap ∧ t.clock = s.clock ∧ t.ceiling = s.ceiling) ∧
    (x.inRange = true → ¬conflict → x.gasSensor = s.site.gasSensor → x.fan = s.site.fan →
      exec .tableWriteSite s = .next (({ u with site := x }.evaluate).sendReply src 0x01 { code := .ok }))

/-- R113: an accepted Site record write that changes the gas sensor address to 0 makes the sensor state NONE, stops the lost
timer, sets the gas qualifier LOW and leaves HOLD for NORMAL; to another address it makes the sensor LOST, stops the
timer, sets the qualifier HIGH and takes NORMAL and HOLD to HOLD with reason SENSOR_LOST; TRIP stays. -/
def Obligations.GasSensorAddressChange : Prop :=
  ∀ (s : State) (x : Site), x.gasSensor ≠ s.site.gasSensor →
    let g := (s.applySite x).gas
    g.lost = .stopped ∧
    (x.gasSensor = 0 →
      g.sensor = .none ∧ g.qualifier = { state := false, agree := 0 } ∧
      (s.gas.state = .hold → g.state = .normal ∧ g.reason = .none) ∧
      (s.gas.state ≠ .hold → g.state = s.gas.state ∧ g.reason = s.gas.reason)) ∧
    (x.gasSensor ≠ 0 →
      g.sensor = .lost ∧ g.qualifier = { state := true, agree := 0 } ∧
      (s.gas.state ≠ .trip → g.state = .hold ∧ g.reason = .sensorLost) ∧
      (s.gas.state = .trip → g.state = .trip ∧ g.reason = s.gas.reason))

/-- R21, R22, R131, R176, R177 (TABLE_WRITE_SOURCE_MAP): an address outside 01h to EFh and a field out of range are answered
BAD_RANGE. A deletion is refused while a String, Site or Cell record names the address, it is held, or its monitor's string is
being swept; a new entry when the map holds 64, its cells overlap another monitor's, or its string is being swept; an entry of
another role always; an amendment when it changes the string of an entry that is named or held, for an overlap, or for a sweep
of the old or the new string. A refused write is answered BAD_STATE and changes nothing; any other is made, and a VALVE entry
added while a round runs is held. No evaluation follows. A written entry is the one at its address, and the entries at every
other address stay. That a deletion may carry any other field in its range or absent is the model's choice
(notes/assumptions/4.md). -/
def Obligations.SourceMapEntryWritten : Prop :=
  (∀ (s : State) (src : Byte) (rest : List Request) (a role str first count action : Byte),
      AtHead s src [0x01, 0x02, a, role, str, first, count, action] rest →
      let u := s.withInput rest
      let answered (t : State) (c : ReplyCode) := exec .tableWriteSourceMap s = .next (t.sendReply src 0x01 { code := c })
      let named := ∃ i, (s.str i).cfg.switch = a ∨ (s.str i).cfg.sensor = a
      let held := s.holderOf a ≠ none
      let swept (e : MapEntry) := e.role = .cellMonitor ∧ ∃ i, e.string = some i ∧ (s.str i).sweep ≠ .idle
      let overlaps (e : MapEntry) := e.role = .cellMonitor ∧ ∃ x ∈ s.sourceMap, x.role = .cellMonitor ∧ x.addr ≠ a ∧
        x.string = e.string ∧ ∃ f n g m, e.block = some (f, n) ∧ x.block = some (g, m) ∧ f < g + m ∧ g < f + n
      let bound := ∃ i p b, (s.cell i p).binding = some b ∧ b.addr = a
      let inSite := s.site.charger = a ∨ s.site.gasSensor = a ∨ s.site.fan = a
      let entry (r : Role) : MapEntry :=
        { addr := a, role := r, string := if r.hasString then indexOf? 8 str.toNat else none,
          block := if r = .cellMonitor then some (first.toNat, count.toNat) else none, pass := action = 0x00 }
      let inRange (r : Role) := action.toNat ≤ 1 ∧ (if r.hasString then str.toNat ≤ 7 else str = 0xFF) ∧
        (if r = .cellMonitor then 1 ≤ count.toNat ∧ count.toNat ≤ 4 ∧ first.toNat + count.toNat ≤ 32
         else first = 0xFF ∧ count = 0x00)
      let deletable := action.toNat ≤ 1 ∧ (str.toNat ≤ 7 ∨ str = 0xFF) ∧ (first.toNat ≤ 31 ∨ first = 0xFF) ∧ count.toNat ≤ 4 ∧
        (first = 0xFF ∨ first.toNat + count.toNat ≤ 32)
      (isFieldAddr a = false ∨ 8 < role.toNat → answered u .badRange) ∧
      (isFieldAddr a = true → role = 0x00 →
        (¬deletable → answered u .badRange) ∧
        (deletable → s.mapped a = none → answered u .ok) ∧
        (∀ e, deletable → s.mapped a = some e →
          (named ∨ inSite ∨ bound ∨ held ∨ swept e → answered u .badState) ∧
          (¬(named ∨ inSite ∨ bound ∨ held ∨ swept e) →
            answered { u with sourceMap := s.sourceMap.filter (·.addr ≠ a) } .ok))) ∧
      (∀ r, isFieldAddr a = true → role.toNat = roleCode r →
        let added := { u with sourceMap := insertEntry (entry r) s.sourceMap }
        let unaddable := 64 ≤ s.sourceMap.length ∨ overlaps (entry r) ∨ swept (entry r)
        (¬inRange r → answered u .badRange) ∧
        (∀ old, inRange r → s.mapped a = some old →
          let unamendable := ((entry r).string ≠ old.string ∧ (named ∨ held)) ∨ overlaps (entry r) ∨ swept old ∨
            swept (entry r)
          (old.role ≠ r ∨ unamendable → answered u .badState) ∧ (old.role = r → ¬unamendable → answered added .ok)) ∧
        (inRange r → s.mapped a = none →
          (unaddable → answered u .badState) ∧
          (¬unaddable → ¬(r = .valve ∧ s.water.round.state ≠ .idle) → answered added .ok) ∧
          (¬unaddable → r = .valve → s.water.round.state ≠ .idle → answered (added.takeHold a .manifold) .ok)))) ∧
  (∀ (l : List MapEntry) (e : MapEntry) (a : Byte),
    (insertEntry e l).find? (·.addr = a) = if a = e.addr then some e else l.find? (·.addr = a))

/-- R30, R40, R68, R69, R82, R168, R177, R179 (TABLE_WRITE_STRING): a string above 7 and a field out of range are answered
BAD_RANGE; a string that is neither ABSENT nor FLOAT, and a switch or sensor address that the map does not hold in its role
for the string (or, in an unfitted record, 00h), BAD_STATE, with no effect. An accepted write replaces the configuration and
empties the latch; Q, the equalise age and the retry hold are kept; a string fitted by the write enters FLOAT with its census
started at the present second; a string unfitted by it becomes ABSENT, its census stops and its entries leave the list; a
changed sensor address of a fitted string starts the census anew. Each position that leaves the fitted range takes cold
qualifiers and level state UNKNOWN, and a LEVEL qualifier that was LOW there brings R68's withdrawal check. An evaluation
follows; the last clauses on t are for a string with no entry listed, which it can grant nothing. That an evaluation is made
before the reply is offered is read from R75 and R175 (DEDUCED, notes/assumptions/15.md). -/
def Obligations.StringRecordWritten : Prop :=
  ∀ (s : State) (src n : Byte) (rest : List Request) (body : List Byte), body.length = 13 →
    AtHead s src ([0x01, 0x03, n] ++ body) rest →
    let u := s.withInput rest
    let c := readString body
    let inRange := c.cellCount ≤ 32 ∧ 10 ≤ c.capacity ∧ c.capacity ≤ 3000 ∧ natField body 3 1 ≤ 7 ∧ c.level ≤ 7 ∧
      (c.interval = 0 ∨ (24 ≤ c.interval ∧ c.interval ≤ 8760)) ∧ (c.threshold = 0 ∨ (1000 ≤ c.threshold ∧ c.threshold ≤ 200000))
    (8 ≤ n.toNat ∨ ¬inRange →
      exec .tableWriteString s = .next (u.sendReply src 0x01 { code := .badRange })) ∧
    (∀ i : StringNo, n.toNat = i.val → inRange →
      let old := (s.str i).cfg
      let serves (a : Byte) (role : Role) :=
        (c.cellCount = 0 ∧ a = 0x00) ∨ ∃ e, s.mapped a = some e ∧ e.role = role ∧ e.string = some i
      let conflict := ((s.str i).state ≠ .absent ∧ (s.str i).state ≠ .float) ∨ ¬serves c.switch .switch ∨
        ¬serves c.sensor .stringSensor
      let leaves (p : Position) := c.cellCount ≤ p.val ∧ p.val < old.cellCount
      let withdraws := (∃ p, leaves p ∧ (s.cell i p).levelQ.state = true) ∧
        ∀ p : Position, p.val < c.cellCount → (s.cell i p).level ≠ .low
      (conflict → exec .tableWriteString s = .next (u.sendReply src 0x01 { code := .badState })) ∧
      (¬conflict → ∃ v t : State, t = v.evaluate ∧ exec .tableWriteString s = .next (t.sendReply src 0x01 { code := .ok }) ∧
        (∀ p, (leaves p → v.cell i p = { s.cell i p with ov := {}, ot := {}, levelQ := {}, level := .unknown }) ∧
          (¬leaves p → v.cell i p = s.cell i p)) ∧
        (c.cellCount = 0 → old.cellCount ≠ 0 → v.requests = s.requests.filter (·.string ≠ i)) ∧
        (c.cellCount ≠ 0 → withdraws → v.requests = s.requests.filter fun e =>
          !(e.string = i && e.kind = .watering && e.sources = { level := true })) ∧
        (¬withdraws → (c.cellCount ≠ 0 ∨ old.cellCount = 0) → v.requests = s.requests) ∧
        (c.cellCount ≠ 0 → old.cellCount ≠ 0 → (v.str i).state = (s.str i).state ∧
          (c.sensor ≠ old.sensor → (v.str i).presence = .unknown ∧ (v.str i).censusStart = some s.second ∧
            (v.str i).lastArrival = none) ∧
          (c.sensor = old.sensor → (v.str i).presence = (s.str i).presence ∧
            (v.str i).censusStart = (s.str i).censusStart ∧ (v.str i).lastArrival = (s.str i).lastArrival)) ∧
        (∀ j, j ≠ i → v.str j = s.str j) ∧ v.bays = s.bays ∧ v.holds = s.holds ∧ v.fp = s.fp ∧
        (t.str i).cfg = c ∧
        t.mgmt.latches[i] = none ∧ t.site = s.site ∧ t.sourceMap = s.sourceMap ∧
        (c.cellCount = 0 → old.cellCount ≠ 0 → ∀ e ∈ t.requests, e.string ≠ i) ∧
        ((∀ e ∈ s.requests, e.string ≠ i) →
          (t.str i).q = (s.str i).q ∧ (t.str i).jobCharge = (s.str i).jobCharge ∧ (t.str i).age = (s.str i).age ∧
          (t.str i).retryHold = (s.str i).retryHold ∧ (t.str i).lastMean = (s.str i).lastMean ∧
          (c.cellCount ≠ 0 → old.cellCount = 0 →
            (t.str i).state = .float ∧ (t.str i).presence = .unknown ∧ (t.str i).censusStart = some s.second ∧
            (t.str i).lastArrival = none) ∧
          (c.cellCount = 0 → old.cellCount ≠ 0 →
            (t.str i).state = .absent ∧ (t.str i).presence = .unknown ∧ (t.str i).censusStart = none))))

/-- R27, R177 (TABLE_WRITE_CELL): a string above 7, a position above 31 and a field out of range are answered BAD_RANGE. A
binding whose address is not mapped VALVE or that another cell has, and, for a string in WATERING, one that differs from the
present binding, are answered BAD_STATE, with no effect. An accepted write replaces the binding and the override, clears the
valve fault flag when 00h is written and leaves it otherwise, touches no run field, and is followed by an evaluation. What
changes a binding is DEDUCED (notes/assumptions/21.md).
That an evaluation is made before the reply is offered is read from R75 and R175 (DEDUCED, notes/assumptions/15.md). -/
def Obligations.CellRecordWritten : Prop :=
  ∀ (s : State) (src n m : Byte) (rest : List Request) (body : List Byte), body.length = 7 →
    AtHead s src ([0x01, 0x04, n, m] ++ body) rest →
    let u := s.withInput rest
    let part (off len : Nat) := natField body off len
    let inRange := part 1 1 ≤ 7 ∧ (part 2 2 = 0 ∨ (10 ≤ part 2 2 ∧ part 2 2 ≤ 2000)) ∧ part 4 1 ≤ 120 ∧
      (part 5 1 = 0 ∨ (10 ≤ part 5 1 ∧ part 5 1 ≤ 100)) ∧ (part 0 1 = 0 → part 1 1 = 0) ∧ part 6 1 ≤ 1
    (8 ≤ n.toNat ∨ 32 ≤ m.toNat ∨ ¬inRange →
      exec .tableWriteCell s = .next (u.sendReply src 0x01 { code := .badRange })) ∧
    (∀ (i : StringNo) (p : Position), n.toNat = i.val → m.toNat = p.val → inRange →
      let conflict :=
        (∃ b, readBinding body = some b ∧
          ((∀ e, s.mapped b.addr = some e → e.role ≠ .valve) ∨
            ∃ j q, ¬(j = i ∧ q = p) ∧ (s.cell j q).binding = some b)) ∨
        ((s.str i).state = .watering ∧ readBinding body ≠ (s.cell i p).binding)
      (conflict → exec .tableWriteCell s = .next (u.sendReply src 0x01 { code := .badState })) ∧
      (¬conflict →
        exec .tableWriteCell s =
          .next (((u.modCell i p fun c =>
            { c with binding := readBinding body, override := readOverride body,
                     valveFault := c.valveFault && body.getLast? != some 0x00 }).evaluate).sendReply src 0x01 { code := .ok })))

/-- R168, R177, R180 (TABLE_WRITE_PROFILE): a profile above 7 and a field out of range are answered BAD_RANGE; a write while a
string on the profile is in BASELINE to TRANSFER_BACK, SETTLING or WATERING is answered BAD_STATE; an accepted write
replaces the profile, empties the latch of every string that names it, changes nothing else, and is followed by an evaluation.
That an evaluation is made before the reply is offered is read from R75 and R175 (DEDUCED, notes/assumptions/15.md). -/
def Obligations.ProfileWritten : Prop :=
  (∀ x : Profile, x.inRange = true ↔
    2200 ≤ x.vEq ∧ x.vEq ≤ 2600 ∧ 2150 ≤ x.floatV ∧ x.floatV ≤ 2350 ∧ x.k ≤ 6000 ∧ 2100 ≤ x.clampMin ∧
    x.clampMin ≤ x.clampMax ∧ x.clampMax ≤ 2700 ∧ 10 ≤ x.rate ∧ x.rate ≤ 200 ∧ 60 ≤ x.maxDuration ∧ x.maxDuration ≤ 1440 ∧
    5 ≤ x.window ∧ x.window ≤ 60 ∧ x.window ≤ x.maxDuration ∧ 10 ≤ x.tolerance ∧ x.tolerance ≤ 10000 ∧
    2 ≤ x.plateauRequired ∧ x.plateauRequired ≤ 8 ∧ 10 ≤ x.spreadLimit ∧ x.spreadLimit ≤ 300 ∧
    (x.spreadTrigger = 0 ∨ (20 ≤ x.spreadTrigger ∧ x.spreadTrigger ≤ 500)) ∧ 2300 ≤ x.ovLimit ∧ x.ovLimit ≤ 2900 ∧
    x.clampMax < x.ovLimit ∧ 60 ≤ x.otLimit ∧ x.otLimit ≤ 130 ∧ x.gassing ≤ 1000 ∧ x.settle ≤ 480 ∧
    1 ≤ x.retryDelay ∧ x.retryDelay ≤ 168) ∧
  ∀ (s : State) (src n : Byte) (rest : List Request) (body : List Byte), body.length = 29 →
    AtHead s src ([0x01, 0x05, n] ++ body) rest →
    let u := s.withInput rest
    let x := readProfile body
    (8 ≤ n.toNat ∨ x.inRange = false →
      exec .tableWriteProfile s = .next (u.sendReply src 0x01 { code := .badRange })) ∧
    (∀ k : ProfileNo, n.toNat = k.val → x.inRange = true →
      ((∃ i, (s.str i).cfg.profile = k ∧ (s.str i).state ∈
          [StringState.baseline, .transferOut, .equalising, .held, .transferBack, .settling, .watering]) →
        exec .tableWriteProfile s = .next (u.sendReply src 0x01 { code := .badState })) ∧
      ((∀ i, (s.str i).cfg.profile = k → (s.str i).state ∈ [StringState.absent, .float, .isolated]) →
        ∃ v t : State, t = v.evaluate ∧ exec .tableWriteProfile s = .next (t.sendReply src 0x01 { code := .ok }) ∧
          v = { u with profiles := v.profiles, mgmt := { u.mgmt with latches := v.mgmt.latches } } ∧
          v.profiles[k] = x ∧ (∀ j : ProfileNo, j ≠ k → v.profiles[j] = s.profiles[j]) ∧
          (∀ i : StringNo, v.mgmt.latches[i] = if (s.str i).cfg.profile = k then none else s.mgmt.latches[i]) ∧
          t.profiles = v.profiles ∧ t.mgmt.latches = v.mgmt.latches ∧
          t.site = s.site ∧ (∀ i, (t.str i).cfg = (s.str i).cfg)))

/-- R19, R181 (TABLE_READ): a part that is neither CONFIG nor RUN, or RUN for another table than the String Table and the Cell
Table, is answered BAD_REQUEST, a selector out of range BAD_RANGE; every other read returns table, selector, part and
body. A read changes nothing: the request leaves the queue and the reply is offered. -/
def Obligations.TableReadChangesNothing : Prop :=
  ∀ (s : State) (src : Byte) (rest : List Request) (part : Byte),
    let u := s.withInput rest
    let answered (c : ReplyCode) (d : List Byte) := exec .tableRead s = .next (u.sendReply src 0x02 { code := c, data := d })
    (AtHead s src [0x02, 0x01, part] rest →
      (part = 0x00 → answered .ok ([0x01, 0x00] ++ siteBody s.site)) ∧ (part ≠ 0x00 → answered .badRequest [])) ∧
    (∀ a, AtHead s src [0x02, 0x02, a, part] rest →
      (part = 0x00 → isFieldAddr a = true → answered .ok ([0x02, a, 0x00] ++ mapBody (s.mapped a))) ∧
      (part = 0x00 → isFieldAddr a = false → answered .badRange []) ∧ (part ≠ 0x00 → answered .badRequest [])) ∧
    (∀ n, AtHead s src [0x02, 0x03, n, part] rest →
      (∀ i : StringNo, n.toNat = i.val →
        (part = 0x00 → answered .ok ([0x03, n, 0x00] ++ stringBody (s.str i).cfg)) ∧
        (part = 0x01 → answered .ok ([0x03, n, 0x01] ++ stringRun (s.str i)))) ∧
      (part.toNat ≤ 1 → 8 ≤ n.toNat → answered .badRange []) ∧ (1 < part.toNat → answered .badRequest [])) ∧
    (∀ n m, AtHead s src [0x02, 0x04, n, m, part] rest →
      (∀ (i : StringNo) (p : Position), n.toNat = i.val → m.toNat = p.val →
        (part = 0x00 → answered .ok ([0x04, n, m, 0x00] ++ cellBody (s.cell i p))) ∧
        (part = 0x01 → answered .ok ([0x04, n, m, 0x01] ++ cellRun (s.cell i p)))) ∧
      (part.toNat ≤ 1 → 8 ≤ n.toNat ∨ 32 ≤ m.toNat → answered .badRange []) ∧ (1 < part.toNat → answered .badRequest [])) ∧
    (∀ n, AtHead s src [0x02, 0x05, n, part] rest →
      (∀ k : ProfileNo, n.toNat = k.val → part = 0x00 → answered .ok ([0x05, n, 0x00] ++ profileBody s.profiles[k])) ∧
      (part = 0x00 → 8 ≤ n.toNat → answered .badRange []) ∧ (part ≠ 0x00 → answered .badRequest []))

/-- R182 (RESTORE): a string above 7 is answered BAD_RANGE and one that is neither ABSENT nor FLOAT BAD_STATE, with no effect;
otherwise Q and the equalise age take the values carried, nothing else changes and no evaluation follows. -/
def Obligations.RestoreSetsChargeAndAge : Prop :=
  ∀ (s : State) (src n : Byte) (rest : List Request) (q age : Nat), q < 2 ^ 40 → age < 2 ^ 16 →
    AtHead s src ([0x03, n] ++ beBytes 5 q ++ beBytes 2 age) rest →
    let u := s.withInput rest
    (8 ≤ n.toNat → exec .restore s = .next (u.sendReply src 0x03 { code := .badRange })) ∧
    (∀ i : StringNo, n.toNat = i.val →
      ((s.str i).state ≠ .absent → (s.str i).state ≠ .float →
        exec .restore s = .next (u.sendReply src 0x03 { code := .badState })) ∧
      ((s.str i).state = .absent ∨ (s.str i).state = .float →
        exec .restore s =
          .next ((u.modStr i fun r => { r with q := q, age := age }).sendReply src 0x03 { code := .ok })))

/-- R70 (JOB_START): the request is answered by the first row of R70's table that applies; an accepted one raises an entry
with source MANAGEMENT at the given level, and an evaluation follows.
That an evaluation is made before the reply is offered is read from R75 and R175 (DEDUCED, notes/assumptions/15.md). -/
def Obligations.JobStartRaises : Prop :=
  ∀ (s : State) (src n k level : Byte) (rest : List Request), AtHead s src [0x04, n, k, level] rest →
    let u := s.withInput rest
    (8 ≤ n.toNat ∨ 1 < k.toNat ∨ level.toNat < 1 ∨ 7 < level.toNat →
      exec .jobStart s = .next (u.sendReply src 0x04 { code := .badRange })) ∧
    (∀ (i : StringNo) (kind : JobKind), n.toNat = i.val → k = (match kind with | .equalise => 0x00 | .watering => 0x01) →
      1 ≤ level.toNat → level.toNat ≤ 7 →
      let refused := (s.str i).state = .absent ∨
        (kind = .equalise ∧ (s.str i).state ∈ [StringState.baseline, .transferOut, .equalising, .held, .transferBack]) ∨
        (kind = .watering ∧ (s.str i).state = .watering)
      (refused → exec .jobStart s = .next (u.sendReply src 0x04 { code := .badState })) ∧
      (¬refused → exec .jobStart s =
        .next (({ u with requests := raiseInto s.requests i kind .management level.toNat s.second }.evaluate).sendReply
          src 0x04 { code := .ok })))

/-- R62, R63: a raise for a pair with no entry adds one at the tail with that source, level and arrival second; a raise for a
listed pair merges: the source joins the set, the level becomes the greater, arrival and place are kept; every other entry
stays as it is. -/
def Obligations.RaiseAddsOrMerges : Prop :=
  ∀ (l : List Entry) (i : StringNo) (k : JobKind) (src : Source) (level now : Nat),
    ((∀ e ∈ l, ¬(e.string = i ∧ e.kind = k)) →
      raiseInto l i k src level now =
        l ++ [{ string := i, kind := k, sources := ({} : SourceSet).insert src, level := level, arrival := now }]) ∧
    ((∃ e ∈ l, e.string = i ∧ e.kind = k) →
      (raiseInto l i k src level now).length = l.length ∧
      ∀ (n : Nat) (e : Entry), l[n]? = some e →
        (e.string = i ∧ e.kind = k → (raiseInto l i k src level now)[n]? =
          some { e with sources := e.sources.insert src, level := max e.level level }) ∧
        (¬(e.string = i ∧ e.kind = k) → (raiseInto l i k src level now)[n]? = some e))

/-- R71, R100, R101, R102, R141, R143, R144, R146 (JOB_CANCEL): a range fault is answered BAD_RANGE, and a pair with neither a
listed entry nor running work BAD_STATE, with no effect; otherwise the reply is OK and the pair's entry leaves the list. A job
in BASELINE ends at once, its result posted, its bay freed and its retry hold left; a running equalise beyond BASELINE enters
TRANSFER_BACK with end ABNORMAL CANCELLED. A round whose fill is absent or OFFERED ends with that end, a waiting OPEN being
withdrawn and a pending CLOSE kept; one with a fill OUTSTANDING enters ENDING. An end brings an evaluation; a removal of an
entry alone changes nothing else, and no evaluation follows it. That an evaluation is made before the reply is offered is read
from R75 and R175 (DEDUCED, notes/assumptions/15.md). -/
def Obligations.JobCancelRemovesAndCancels : Prop :=
  ∀ (s : State) (src n k : Byte) (rest : List Request), AtHead s src [0x05, n, k] rest →
    let u := s.withInput rest
    let w := s.water.round
    (8 ≤ n.toNat ∨ 1 < k.toNat → exec .jobCancel s = .next (u.sendReply src 0x05 { code := .badRange })) ∧
    (∀ (i : StringNo) (kind : JobKind), n.toNat = i.val → k = (match kind with | .equalise => 0x00 | .watering => 0x01) →
      let listed := ∃ e ∈ s.requests, e.string = i ∧ e.kind = kind
      let without := s.requests.filter fun e : Entry => !(e.string = i && e.kind = kind)
      let running :=
        (kind = .equalise ∧ (s.str i).state ∈ [StringState.baseline, .transferOut, .equalising, .held]) ∨
        (kind = .watering ∧ (s.str i).state = .watering ∧ s.water.round.state = .filling)
      (¬listed → ¬running → exec .jobCancel s = .next (u.sendReply src 0x05 { code := .badState })) ∧
      (listed → ¬running →
        exec .jobCancel s = .next ({ u with requests := without }.sendReply src 0x05 { code := .ok })) ∧
      (∀ b, kind = .equalise → Working s b i .baseline →
        ∃ v : State, exec .jobCancel s = .next ((v.evaluate).sendReply src 0x05 { code := .ok }) ∧
          EndsInBaseline s v b i ⟨.abnormal, .cancelled⟩ ∧ v.requests = without ∧
          (v.str i).retryHold = (s.str i).retryHold ∧ (v.str i).age = (s.str i).age ∧ (∀ j, j ≠ i → v.str j = s.str j)) ∧
      (∀ b st, kind = .equalise → st ∈ [StringState.transferOut, .equalising, .held] → Working s b i st →
        ∃ t : State, exec .jobCancel s = .next (t.sendReply src 0x05 { code := .ok }) ∧ (t.str i).state = .transferBack ∧
          (t.bay b).ended = some ⟨.abnormal, .cancelled⟩ ∧ (t.bay b).state = .busy ∧ t.requests = without ∧
          (t.str i).retryHold = (s.str i).retryHold ∧ t.holds = s.holds ∧ t.mgmt.results = s.mgmt.results) ∧
      (∀ missed, kind = .watering → running → w.string = some i →
        (w.fill = none ∧ missed = w.fillList.length ∨
          ∃ f, w.fill = some f ∧ f.phase = .offered ∧ missed = w.fillList.length + 1) →
        ∃ (v : State) (r : Result), exec .jobCancel s = .next ((v.evaluate).sendReply src 0x05 { code := .ok }) ∧
          v.water = { s.water with round := {} } ∧ (v.str i).state = .float ∧ v.requests = without ∧
          v.holds = s.holds.filter (·.holder ≠ .manifold) ∧ v.bays = s.bays ∧
          (w.fill ≠ none → v.fp.offers = s.fp.offers.filter (!isValveOpen ·.cmd)) ∧
          (w.fill = none → v.fp.offers = s.fp.offers) ∧
          (v.str i).q = reduceQ (s.str i).q w.total (s.str i).cfg.cellCount (s.profile i).gassing ∧
          v.mgmt.results.getLast? = some r ∧ r.string = i ∧ r.cls = .abnormal ∧ r.cause = .cancelled ∧
          r.startMinute = w.startMinute ∧ r.part = .watering w.filled w.total missed w.faulted) ∧
      (∀ f, kind = .watering → running → w.fill = some f → f.phase = .outstanding →
        ∃ t : State, exec .jobCancel s = .next (t.sendReply src 0x05 { code := .ok }) ∧
          t.water.round.state = .ending ∧ t.water.round.fill = some f ∧
          t.water.round.ended = some ⟨.abnormal, .cancelled⟩ ∧ t.water.round.fillList = w.fillList ∧
          t.water.round.fillTimer = w.fillTimer ∧ t.requests = without ∧ t.holds = s.holds ∧
          t.water.tank = s.water.tank ∧ t.mgmt.results = s.mgmt.results ∧
          (s.offerRoom = true → t.water.pendingClose = none ∧
            t.fp.chain = s.fp.chain.pushLocal (cmdFrame s.own (.valveClose f.addr f.channel))) ∧
          (s.offerRoom = false → t.water.pendingClose = some ⟨f.addr, f.channel⟩ ∧
            t.fp.offers = s.fp.offers ++ [⟨.watering, .valveClose f.addr f.channel⟩])))

/-- R72, R127, R134 (SET_CEILING, SET_TANK): a ceiling above 7 is answered BAD_RANGE and leaves the ceiling; any other
replaces it, and an evaluation follows. The tank estimate and the reserve take the values carried; with no fill offered an
evaluation follows and that is all; an offered fill that the new figures no longer cover ends the round, whose result says
ABNORMAL TANK and counts the withdrawn cell and every listed position as not reached.
That an evaluation is made before the reply is offered is read from R75 and R175 (DEDUCED, notes/assumptions/15.md). -/
def Obligations.CeilingAndTankSet : Prop :=
  (∀ (s : State) (src c : Byte) (rest : List Request), AtHead s src [0x06, c] rest →
    (7 < c.toNat → exec .setCeiling s = .next ((s.withInput rest).sendReply src 0x06 { code := .badRange })) ∧
    (c.toNat ≤ 7 →
      exec .setCeiling s =
        .next (({ s.withInput rest with ceiling := c.toNat }.evaluate).sendReply src 0x06 { code := .ok }))) ∧
  (∀ (s : State) (src : Byte) (rest : List Request) (estimate reserve : Nat), estimate < 2 ^ 16 → reserve < 2 ^ 16 →
      AtHead s src ([0x07] ++ beBytes 2 estimate ++ beBytes 2 reserve) rest →
      let figures (u : State) := { u with water := { u.water with tank := estimate, reserve := reserve } }
      (∃ t : State, exec .setTank s = .next (t.sendReply src 0x07 { code := .ok }) ∧
        t.water.tank = estimate ∧ t.water.reserve = reserve) ∧
      ((∀ f, s.water.round.fill = some f → f.phase = .offered → (f.volume : Int) ≤ (estimate : Int) - reserve) →
        exec .setTank s = .next (((figures (s.withInput rest)).evaluate).sendReply src 0x07 { code := .ok })) ∧
      (∀ f i, s.water.round.fill = some f → f.phase = .offered → (estimate : Int) - reserve < f.volume →
        s.water.round.string = some i →
        ∃ (t : State) (r : Result), exec .setTank s = .next (t.sendReply src 0x07 { code := .ok }) ∧
          t.mgmt.results.getLast? = some r ∧ r.string = i ∧ r.cls = .abnormal ∧
          r.cause = .tank ∧
          r.part = .watering s.water.round.filled s.water.round.total (s.water.round.fillList.length + 1) s.water.round.faulted))

/-- R163, R164, R166, R167 (FETCH_RESULT): a posted record joins the Result Queue, a full queue first losing its oldest record
and the next one taking the gap flag; one NOTICE with the count is offered, and dropped and counted when no slot is free; that
it is dropped also while a reply waits for a free slot is the model's choice (notes/assumptions/13.md). An empty queue is
answered EMPTY; otherwise the reply is OK with the oldest record, laid out by R20, and the record leaves the queue. -/
def Obligations.ResultsPostedAndFetched : Prop :=
  (∀ (s : State) (r : Result),
    (s.mgmt.results.length < 16 → (s.post r).mgmt = { s.mgmt with results := s.mgmt.results ++ [r] }) ∧
    (∀ x y l, s.mgmt.results = x :: y :: l → 16 ≤ s.mgmt.results.length →
      (s.post r).mgmt = { s.mgmt with results := { y with gap := true } :: l ++ [r] }) ∧
    (s.fp.trunk.localQ.length < 8 → s.mgmt.mu = .idle →
      (s.post r).fp = (s.modPort .trunk (·.pushLocal
        (mkFrame 0x00 s.own 0x33 [BitVec.ofNat 8 (s.post r).mgmt.results.length]))).fp) ∧
    (8 ≤ s.fp.trunk.localQ.length ∨ s.mgmt.mu ≠ .idle →
      (s.post r).fp = { s.fp with upDrops := min (s.fp.upDrops + 1) 65535 }) ∧
    (s.post r).strings = s.strings ∧ (s.post r).bays = s.bays ∧ (s.post r).requests = s.requests ∧
    (s.post r).holds = s.holds ∧ (s.post r).gas = s.gas ∧ (s.post r).water = s.water) ∧
  (∀ (s : State) (src : Byte) (rest : List Request), AtHead s src [0x08] rest →
    (s.mgmt.results = [] →
      exec .fetchResult s = .next ((s.withInput rest).sendReply src 0x08 { code := .empty })) ∧
    (∀ r l, s.mgmt.results = r :: l →
      exec .fetchResult s =
        .next ({ s with mgmt := { s.mgmt with input := rest, results := l } }.sendReply src 0x08
          { code := .ok, data := resultBytes r })))

/-- R49, R168 to R171 (SNAPSHOT, READ_SNAPSHOT): SNAPSHOT fills an EMPTY latch with the values of the moment and leaves a FULL
one; READ_SNAPSHOT returns and empties a FULL latch, and otherwise returns live values and leaves the latch EMPTY. A
latching and a live read with a fresh cell write the string's last mean. -/
def Obligations.SnapshotsLatchAndRead : Prop :=
  ∀ (s : State) (src n : Byte) (rest : List Request),
    let u := s.withInput rest
    (AtHead s src [0x09, n] rest →
      (8 ≤ n.toNat → exec .snapshot s = .next (u.sendReply src 0x09 { code := .badRange })) ∧
      (∀ i : StringNo, n.toNat = i.val →
        ((s.str i).state = .absent → exec .snapshot s = .next (u.sendReply src 0x09 { code := .badState })) ∧
        ((s.str i).state ≠ .absent → s.mgmt.latches[i] ≠ none →
          exec .snapshot s = .next (u.sendReply src 0x09 { code := .ok, data := [0x01] })) ∧
        ((s.str i).state ≠ .absent → s.mgmt.latches[i] = none →
          ∃ t : State, exec .snapshot s = .next (t.sendReply src 0x09 { code := .ok, data := [0x00] }) ∧
            t.mgmt.latches[i] = some (s.snapshotOf i) ∧
            (∀ j : StringNo, j ≠ i → t.mgmt.latches[j] = s.mgmt.latches[j]) ∧
            (s.freshCells i ≠ [] → (t.str i).lastMean = some (s.meanOf i)) ∧
            (s.freshCells i = [] → t.strings = s.strings) ∧ t.requests = s.requests ∧ t.bays = s.bays))) ∧
    (AtHead s src [0x0A, n] rest →
      (8 ≤ n.toNat → exec .readSnapshot s = .next (u.sendReply src 0x0A { code := .badRange })) ∧
      (∀ i : StringNo, n.toNat = i.val →
        (∀ x, s.mgmt.latches[i] = some x →
          ∃ t : State, exec .readSnapshot s = .next (t.sendReply src 0x0A { code := .ok, data := snapshotBytes false x }) ∧
            t.mgmt.latches[i] = none ∧ (∀ j : StringNo, j ≠ i → t.mgmt.latches[j] = s.mgmt.latches[j]) ∧
            t.strings = s.strings) ∧
        (s.mgmt.latches[i] = none → (s.str i).state = .absent →
          exec .readSnapshot s = .next (u.sendReply src 0x0A { code := .badState })) ∧
        (s.mgmt.latches[i] = none → (s.str i).state ≠ .absent →
          ∃ t : State, exec .readSnapshot s =
              .next (t.sendReply src 0x0A { code := .ok, data := snapshotBytes true (s.snapshotOf i) }) ∧
            t.mgmt.latches = s.mgmt.latches ∧ (s.freshCells i ≠ [] → (t.str i).lastMean = some (s.meanOf i)) ∧
            (s.freshCells i = [] → t = u))))

/-- R172 to R174 (SURVEY): a string above 7 and a criterion above 05h are answered BAD_RANGE, an unfitted string BAD_STATE; a
survey changes no state beyond its reply. A position matches exactly when it is considered and meets the criterion; the
matching positions stand in ascending order. -/
def Obligations.SurveyAnswersMatches : Prop :=
  ∀ (s : State) (src n c high low : Byte) (rest : List Request), AtHead s src [0x0B, n, c, high, low] rest →
    let u := s.withInput rest
    (8 ≤ n.toNat ∨ 5 < c.toNat → exec .survey s = .next (u.sendReply src 0x0B { code := .badRange })) ∧
    (∀ (i : StringNo) (k : Criterion), n.toNat = i.val → criterionOf c.toNat = some k →
      ((s.str i).cfg.cellCount = 0 → exec .survey s = .next (u.sendReply src 0x0B { code := .badState })) ∧
      ((s.str i).cfg.cellCount ≠ 0 →
        let hits := s.matching i k (beInt [high, low])
        let seen := s.considered i k
        exec .survey s = .next (u.sendReply src 0x0B
          { code := .ok,
            data := [n, c,
              (if hits = [] then 0x01 else if hits.length = seen.length then 0x02 else 0x00),
              BitVec.ofNat 8 hits.length, BitVec.ofNat 8 (s.staleCount i k)] ++ hits.map fun p => BitVec.ofNat 8 p.val }) ∧
        hits.Pairwise (· < ·) ∧
        ∀ p, p ∈ hits ↔
          (if k = .levelLow ∨ k = .valveFault then p.val < (s.str i).cfg.cellCount else s.fresh i p = true) ∧
          k.meets (beInt [high, low]) ((s.meanVoltage i).getD 0) (s.cell i p) = true))

/-- R41 (SWEEP): a string above 7 is answered BAD_RANGE, an unfitted one BAD_STATE, a SWEEPING one BUSY; otherwise OK, and the
sweep starts: its owed list takes every CELL_MONITOR of the string, and its timer the site sweep timeout. That holds for a
string with a monitor; with none the sweep completes at once and stays IDLE.
That an evaluation is made before the reply is offered is read from R75 and R175 (DEDUCED, notes/assumptions/15.md). -/
def Obligations.SweepRequestStartsSweep : Prop :=
  ∀ (s : State) (src n : Byte) (rest : List Request), AtHead s src [0x0C, n] rest →
    let u := s.withInput rest
    (8 ≤ n.toNat → exec .sweep s = .next (u.sendReply src 0x0C { code := .badRange })) ∧
    (∀ i : StringNo, n.toNat = i.val →
      let monitors := (s.sourceMap.filter fun e => e.role = .cellMonitor && e.string = some i).map (·.addr)
      ((s.str i).cfg.cellCount = 0 → exec .sweep s = .next (u.sendReply src 0x0C { code := .badState })) ∧
      ((s.str i).cfg.cellCount ≠ 0 → (s.str i).sweep ≠ .idle →
        exec .sweep s = .next (u.sendReply src 0x0C { code := .busy })) ∧
      ((s.str i).cfg.cellCount ≠ 0 → (s.str i).sweep = .idle → monitors ≠ [] →
        ∃ (t : State) (l : List Owed), exec .sweep s = .next (t.sendReply src 0x0C { code := .ok }) ∧
          (t.str i).sweep = .sweeping l (.running s.site.sweepTimeout) ∧
          l.map (·.addr) = monitors ∧ t.bays = s.bays ∧ t.requests = s.requests) ∧
      ((s.str i).cfg.cellCount ≠ 0 → (s.str i).sweep = .idle → monitors = [] →
        ∃ t : State, exec .sweep s = .next (t.sendReply src 0x0C { code := .ok }) ∧ (t.str i).sweep = .idle))

/-- R107, R122, R153, R156 (RELEASE): a string above 7 is answered BAD_RANGE and one that is not ISOLATED BAD_STATE, with no
effect. An accepted RELEASE of a string with a BLOCKED bay releases the switch hold, frees the bay, clears the string's
bay field, puts it in FLOAT and lowers the isolated count, and an evaluation follows; the charger hold goes when no bay is
then BUSY or BLOCKED. The clause is for a bay with no command waiting.
That an evaluation is made before the reply is offered is read from R75 and R175 (DEDUCED, notes/assumptions/15.md). -/
def Obligations.ReleaseFreesBlockedBay : Prop :=
  ∀ (s : State) (src n : Byte) (rest : List Request), AtHead s src [0x0D, n] rest →
    let u := s.withInput rest
    (8 ≤ n.toNat → exec .release s = .next (u.sendReply src 0x0D { code := .badRange })) ∧
    (∀ i : StringNo, n.toNat = i.val →
      ((s.str i).state ≠ .isolated → exec .release s = .next (u.sendReply src 0x0D { code := .badState })) ∧
      (∀ b, (s.str i).state = .isolated → (s.str i).bay = some b → (∀ o ∈ s.fp.offers, o.activity ≠ .bay b) →
        let held := s.holds.filter (· ≠ ⟨(s.str i).cfg.switch, .switch i⟩)
        let othersFree := ∀ c, c ≠ b → (s.bay c).state = .free
        ∀ kept, (othersFree → kept = held.filter (· ≠ ⟨s.site.charger, .charger⟩)) → (¬othersFree → kept = held) →
          exec .release s =
            .next ((({ ((u.setBay b {}).modStr i fun r => { r with bay := none, state := .float }) with holds := kept }.modGas
              fun g : Gas => { g with
                isolated := g.isolated - 1, stat := g.state ≠ GasState.normal || 0 < g.isolated - 1 }).evaluate).sendReply
                src 0x0D { code := .ok })))

/-- R118, R122 (CLEAR_TRIP): outside TRIP, and in TRIP with the trip filter LOW, the reply is BAD_STATE with no effect;
otherwise it is OK, the gas state and reason become what the sensor state and the qualifier say, and STAT follows.
That an evaluation is made before the reply is offered is read from R75 and R175 (DEDUCED, notes/assumptions/15.md). -/
def Obligations.ClearTripLeavesTrip : Prop :=
  ∀ (s : State) (src : Byte) (rest : List Request), AtHead s src [0x0E] rest →
    (s.gas.state ≠ .trip ∨ s.gas.filter = .low →
      exec .clearTrip s = .next ((s.withInput rest).sendReply src 0x0E { code := .badState })) ∧
    (s.gas.state = .trip → s.gas.filter = .high →
      ∃ t : State, exec .clearTrip s = .next (t.sendReply src 0x0E { code := .ok }) ∧
        (s.gas.sensor = .none → t.gas.state = .normal ∧ t.gas.reason = .none) ∧
        (s.gas.sensor = .live → s.gas.qualifier.state = false → t.gas.state = .normal ∧ t.gas.reason = .none) ∧
        (s.gas.sensor = .live → s.gas.qualifier.state = true → t.gas.state = .hold ∧ t.gas.reason = .concentration) ∧
        (s.gas.sensor = .lost → t.gas.state = .hold ∧ t.gas.reason = .sensorLost) ∧
        (t.gas.stat = true ↔ t.gas.state ≠ .normal ∨ 0 < s.gas.isolated) ∧
        t.gas.sensor = s.gas.sensor ∧ t.gas.qualifier = s.gas.qualifier ∧ t.gas.filter = .high)

/-- R15, R183 (STATUS): a flag above 01h is answered BAD_RANGE and leaves the counters; 00h reports and keeps, 01h reports and
sets the five frame counters to 0 after their values have been placed in the reply. Nothing else changes. -/
def Obligations.StatusReportsAndClears : Prop :=
  ∀ (s : State) (src flag : Byte) (rest : List Request), AtHead s src [0x0F, flag] rest →
    let u := s.withInput rest
    let reply : Reply := { code := .ok, data := u.statusBytes }
    (1 < flag.toNat → exec .status s = .next (u.sendReply src 0x0F { code := .badRange })) ∧
    (flag = 0x00 → exec .status s = .next (u.sendReply src 0x0F reply)) ∧
    (flag = 0x01 → exec .status s =
      .next ({ u with fp := { s.fp with
        trunk := { s.fp.trunk with badFrames := 0 }, chain := { s.fp.chain with badFrames := 0 },
        upDrops := 0, downDrops := 0, unmapped := 0 } }.sendReply src 0x0F reply)) ∧
    s.statusBytes.length = 32 ∧
    (s.statusBytes.take 4 = [BitVec.ofNat 8 (gasStateCode s.gas.state), BitVec.ofNat 8 (gasReasonCode s.gas.reason),
      BitVec.ofNat 8 (sensorStateCode s.gas.sensor), if s.gas.fan = .off then 0x00 else 0x01])

/-- R18 (UNKNOWN_REQUEST): a request with LEN 0 is answered BAD_REQUEST with request code 00h; one with an unknown code, or
with a LEN other than its own, is answered BAD_REQUEST with the code received. It has no effect.
Which requests the row takes is DEDUCED (notes/assumptions/9.md). -/
def Obligations.UnknownRequestRefused : Prop :=
  ∀ (s : State) (src : Byte) (rest : List Request),
    (AtHead s src [] rest →
      exec .unknownRequest s = .next ((s.withInput rest).sendReply src 0x00 { code := .badRequest })) ∧
    (∀ c args, AtHead s src (c :: args) rest →
      (c = 0x00 ∨ 0x10 < c.toNat ∨
        (c, args.length) ∉ [((0x03 : Byte), 8), (0x04, 3), (0x05, 2), (0x06, 1), (0x07, 4), (0x08, 0), (0x09, 1), (0x0A, 1),
          (0x0B, 4), (0x0C, 1), (0x0D, 1), (0x0E, 0), (0x0F, 1), (0x10, 0)] ∧ c ≠ 0x01 ∧ c ≠ 0x02) →
      exec .unknownRequest s = .next ((s.withInput rest).sendReply src c { code := .badRequest })) ∧
    (∀ args, AtHead s src (0x01 :: args) rest →
      (∀ t l, args = t :: l → (t, l.length) ∉ [((0x01 : Byte), 23), (0x02, 6), (0x03, 14), (0x04, 9), (0x05, 30)]) →
      exec .unknownRequest s = .next ((s.withInput rest).sendReply src 0x01 { code := .badRequest })) ∧
    (∀ args, AtHead s src (0x02 :: args) rest →
      (∀ t l, args = t :: l → (t, l.length) ∉ [((0x01 : Byte), 1), (0x02, 2), (0x03, 2), (0x04, 3), (0x05, 2)]) →
      exec .unknownRequest s = .next ((s.withInput rest).sendReply src 0x02 { code := .badRequest }))

/-- R15, R24, R26, R40, R44, R49, R62, R81, R101, R102, R110, R123, R148, R160, R168, R184 (RESTART, WARM_RESTART,
MGMT_REPLY_TAKEN): with a free trunk-local slot the OK reply is taken and the effects are made in the same action; without one
MU is WAITING and the part runs on. When that reply is taken, the second counter is 0, the request list empty, every latch
EMPTY and every sweep IDLE; a retry hold keeps its remaining minutes, and one at its end is gone; presence, census, last
arrival and last mean of every fitted string start anew; cells keep configuration, dispensed totals and valve faults. A
BASELINE job ends with elapsed 0; TRANSFER_OUT, EQUALISING and HELD enter TRANSFER_BACK with end RESTART; TRANSFER_BACK and
BLOCKED bays stay; every start minute in them is 0; SETTLING enters FLOAT. A round ends with its result, its OPEN withdrawn, a
CLOSE sent for an outstanding fill. The holds of jobs that go on, tables, ceiling, tank, ages and gas state are kept, agree
counts are 0, and with no BASELINE job fan and fan hold are kept: that one can end the need is DEDUCED
(notes/assumptions/29.md).
The order of the blocks' parts is the model's choice (notes/assumptions/19.md); that RESTART makes the effects itself is
DEDUCED (notes/assumptions/14.md). -/
def Obligations.WarmRestartEffects : Prop :=
  (∀ (s : State) (src : Byte) (rest : List Request), AtHead s src [0x10] rest →
      let u := s.withInput rest
      let f := mkFrame src s.own 0x31 [0x10, 0x00]
      (s.fp.trunk.localQ.length < 8 →
        exec .restart s = .next ((u.modPort .trunk (·.pushLocal f)).warmRestart.settle)) ∧
      (8 ≤ s.fp.trunk.localQ.length →
        exec .restart s = .next { u with mgmt := { u.mgmt with mu := .waiting f true } })) ∧
  (∀ (s : State) (reply : Frame), s.mgmt.mu = .waiting reply true →
    exec .mgmtReplyTaken s = exec .warmRestart s ∧ (8 ≤ s.fp.trunk.localQ.length → exec .warmRestart s = .next s)) ∧
  (∀ (s : State) (reply : Frame), s.mgmt.mu = .waiting reply true → s.fp.trunk.localQ.length < 8 →
      let w := s.water.round
      let quiet := s.fp.offers = [] ∧ s.fp.chain.localQ = [] ∧ s.fp.chain.sending ≠ none
      let sent (t : State) (c : ChainCmd) : Prop := cmdFrame s.own c ∈ t.fp.chain.localQ
      let roundEnds (t : State) (e : EndRec) (missed : Nat) : Prop := ∃ r, t.mgmt.results.getLast? = some r ∧
        some r.string = w.string ∧ r.cls = e.cls ∧ r.cause = e.cause ∧ r.elapsed = 0 ∧ r.startMinute = w.startMinute ∧
        r.part = .watering w.filled w.total missed w.faulted
      ∃ t, exec .warmRestart s = .next t ∧ t.mgmt.mu = .idle ∧ t.mgmt.input = s.mgmt.input ∧ t.second = 0 ∧
        exec .warmRestart s = .next ({ s with mgmt := { s.mgmt with mu := .idle } }.modPort .trunk
          (·.pushLocal reply)).warmRestart.settle ∧
        t.clock.hourDue = false ∧ t.requests = [] ∧ t.mgmt.latches = Vector.replicate 8 none ∧
        t.water.round.state = .idle ∧ (s.water.round.state ≠ .idle → t.water.round = {}) ∧
        t.site = s.site ∧ t.sourceMap = s.sourceMap ∧ t.profiles = s.profiles ∧ t.ceiling = s.ceiling ∧
        t.water.tank = s.water.tank ∧ t.water.reserve = s.water.reserve ∧ t.node = s.node ∧ t.baud = s.baud ∧
        t.gas.state = s.gas.state ∧ t.gas.reason = s.gas.reason ∧ t.gas.sensor = s.gas.sensor ∧
        t.gas.lost = (if s.gas.sensor = .live then .running (4 * s.site.sampleTimeout) else .stopped) ∧
        t.gas.filter = s.gas.filter ∧ t.gas.filterAgree = 0 ∧ t.gas.qualifier = { state := s.gas.qualifier.state, agree := 0 } ∧
        t.fp.downDrops = 0 ∧ t.fp.unmapped = 0 ∧ t.fp.trunk.badFrames = 0 ∧ t.fp.chain.badFrames = 0 ∧
        t.fp.chain.forwardQ.length ≤ s.fp.chain.forwardQ.length ∧
        (∀ i, (t.str i).cfg = (s.str i).cfg ∧ (t.str i).sweep = .idle ∧ (t.str i).age = (s.str i).age ∧
          (∀ m, (s.str i).retryHold = some m → (s.minute < m → (t.str i).retryHold = some (m - s.minute)) ∧
            (m ≤ s.minute → (t.str i).retryHold = none)) ∧
          ((s.str i).retryHold = none → (t.str i).retryHold = none) ∧ (t.str i).lastArrival = none ∧
          (t.str i).lastCurrent = 0 ∧ (t.str i).lastVoltage = 0 ∧ (t.str i).lastMean = none ∧
          (t.str i).jobCharge = (s.str i).jobCharge ∧
          ((s.str i).cfg.cellCount ≠ 0 → (t.str i).presence = .unknown ∧ (t.str i).censusStart = some 0) ∧
          ((s.str i).state = .settling → (∀ b, (s.bay b).string ≠ some i) →
            (t.str i).state = .float ∧ (t.str i).settle = .stopped) ∧
          (∀ p, let c := s.cell i p
            t.cell i p = { binding := c.binding, override := c.override, valveFault := c.valveFault, dispensed := c.dispensed }) ∧
          (∀ b, (∀ c, c ≠ b → (s.bay c).string ≠ some i) → w.string ≠ some i →
            (Working s b i .baseline → (t.str i).state = .float ∧ (t.str i).bay = none ∧ t.bay b = {} ∧
              ⟨(s.str i).cfg.switch, .switch i⟩ ∉ t.holds ∧
              ((∀ c, (t.bay c).state = .free) → ⟨s.site.charger, .charger⟩ ∉ t.holds) ∧
              ∃ r ∈ t.mgmt.results, r.string = i ∧ r.cls = .abnormal ∧ r.cause = .restart ∧ r.elapsed = 0 ∧
                r.isolated = false ∧ r.startMinute = (s.str i).startMinute) ∧
            (∀ st ∈ [StringState.transferOut, .equalising, .held], Working s b i st →
              (t.str i).state = .transferBack ∧ (t.str i).startMinute = 0 ∧ (t.str i).bay = some b ∧
              (t.bay b).state = .busy ∧ (t.bay b).ended = some ⟨.abnormal, .restart⟩ ∧ (t.bay b).endSpread = s.spreadOf i ∧
              (t.bay b).limit = (s.bay b).limit ∧ (t.bay b).duration = .stopped ∧
              (8 ≤ s.fp.chain.localQ.length → ⟨.bay b, .chargerOff s.site.charger b⟩ ∈ t.fp.offers ∧
                (t.bay b).second = some (.switch (s.str i).cfg.switch .float)) ∧
              (quiet → sent t (.chargerOff s.site.charger b) ∧ sent t (.switch (s.str i).cfg.switch .float) ∧
                (t.bay b).confirm = .running s.site.confirmTime)) ∧
            (Working s b i .transferBack ∨
                ((s.bay b).state = .blocked ∧ (s.bay b).string = some i ∧ (s.str i).state = .isolated) →
              t.bay b = s.bay b ∧ (t.str i).state = (s.str i).state ∧ (t.str i).bay = (s.str i).bay ∧
              (t.str i).startMinute = 0))) ∧
        (∀ h ∈ s.holds, h.holder ≠ .manifold →
          ((∀ b i, (s.bay b).string = some i → (s.str i).state ≠ .baseline) → h ∈ t.holds) ∧
          (∀ i b st, h.holder = .switch i → Working s b i st → st ≠ .baseline → h ∈ t.holds) ∧
          (h.holder = .charger → (∃ b, (t.bay b).state ≠ .free) → h ∈ t.holds)) ∧
        ((∀ b i, (s.bay b).string = some i → (s.str i).state ≠ .baseline) →
          t.gas.fan = s.gas.fan ∧ t.gas.runOn = s.gas.runOn ∧ t.gas.bayStrings = s.gas.bayStrings) ∧
        (∀ i, w.state ≠ .idle → w.string = some i → (t.str i).state = .float ∧
          (∀ h ∈ t.holds, h.holder ≠ .manifold) ∧
          (∀ e f, w.state = .ending → w.ended = some e → w.fill = some f → roundEnds t e (w.fillList.length + 1)) ∧
          (w.state = .filling →
            (t.str i).q = reduceQ (s.str i).q w.total (s.str i).cfg.cellCount (s.profile i).gassing ∧
            (w.fill = none → roundEnds t ⟨.abnormal, .restart⟩ w.fillList.length) ∧
            (∀ f, w.fill = some f → roundEnds t ⟨.abnormal, .restart⟩ (w.fillList.length + 1) ∧
              (f.phase = .offered → ∀ o ∈ t.fp.offers, isValveOpen o.cmd = false) ∧
              (f.phase = .outstanding → 8 ≤ s.fp.chain.localQ.length →
                ⟨.watering, .valveClose f.addr f.channel⟩ ∈ t.fp.offers ∧
                t.water.pendingClose = some ⟨f.addr, f.channel⟩) ∧
              (f.phase = .outstanding → quiet → sent t (.valveClose f.addr f.channel) ∧ t.water.pendingClose = none)))))

/-! ## The hour tick, the census and the moments of a string -/

/-- R24, R64, R65 (HOUR_TICK): the tick adds one hour to the age of every fitted string, saturating; each check of R65 that
holds for a fitted string whose level is not 0 lists its source for the pair at the string's level or above; a pair for
which no check holds keeps its entries; and one evaluation follows. -/
def Obligations.HourTickRaises : Prop :=
  ∀ s : State, s.clock.hourDue = true → NoEvaluationDue s →
    let ticked := { s with clock := { s.clock with hourDue := false } }.mapStrings fun _ r =>
      if r.cfg.cellCount ≠ 0 then { r with age := min (r.age + 1) 65535 } else r
    let holds (i : StringNo) (src : Source) : Prop :=
      let r := s.str i
      r.cfg.cellCount ≠ 0 ∧ r.cfg.level ≠ 0 ∧
        ((src = .interval ∧ r.cfg.interval ≠ 0 ∧ r.cfg.interval ≤ min (r.age + 1) 65535 ∧ r.retryHold = none ∧
            r.state ∉ [StringState.baseline, .transferOut, .equalising, .held, .transferBack]) ∨
          (src = .spread ∧ r.state = .float ∧ r.retryHold = none ∧ (s.profile i).spreadTrigger ≠ 0 ∧
            ∃ w, s.spreadOf i = some w ∧ (s.profile i).spreadTrigger < w) ∨
          (src = .debt ∧ r.cfg.threshold ≠ 0 ∧ r.cfg.threshold ≤ r.q * (s.profile i).gassing / 3600000 ∧
            r.state ≠ .watering))
    let kindOf (src : Source) : JobKind := if src = .debt then .watering else .equalise
    ∃ l : List Entry, exec .hourTick s = .next { ticked with requests := l }.evaluate ∧
      (∀ i src, holds i src → ∃ e ∈ l, e.string = i ∧ e.kind = kindOf src ∧ e.sources.insert src = e.sources ∧
        (s.str i).cfg.level ≤ e.level) ∧
      (∀ i k, (∀ src, holds i src → kindOf src ≠ k) →
        l.filter (fun e => e.string = i && e.kind = k) = s.requests.filter (fun e => e.string = i && e.kind = k))

/-- R39, R81, R106, R178 (RETRY_HOLD_END, SETTLE_EXPIRY, CENSUS_EXPIRY, PRESENCE_TIMEOUT): a retry hold that has reached its
end minute becomes absent; a SETTLING string whose settle timer expires enters FLOAT; an UNKNOWN string unheard for 60 s, and
a PRESENT one silent for more than four times the sample timeout in force in this second, become MISSING and post a CHANGED
result. Each is followed by an evaluation, and before its moment none of them changes anything. -/
def Obligations.StringMomentsArrive : Prop :=
  ∀ (s : State) (i : StringNo), NoEvaluationDue s →
    let missing : State := (s.modStr i fun r => { r with presence := .missing }).post
      { string := i, cls := .changed, cause := .none, startMinute := s.minute, elapsed := 0, part := .presence .missing }
    (∀ m, (s.str i).retryHold = some m →
      (m ≤ s.minute → exec (.retryHoldEnd i) s = .next (s.modStr i fun r => { r with retryHold := none }).evaluate) ∧
      (s.minute < m → exec (.retryHoldEnd i) s = .next s)) ∧
    ((s.str i).state = .settling → (s.str i).settle = .running 0 →
      exec (.settleExpiry i) s = .next (s.modStr i fun r => { r with settle := .stopped, state := .float }).evaluate) ∧
    ((s.str i).state ≠ .settling ∨ (s.str i).settle ≠ .running 0 → exec (.settleExpiry i) s = .next s) ∧
    (∀ c, (s.str i).cfg.cellCount ≠ 0 → (s.str i).presence = .unknown → (s.str i).censusStart = some c →
      (c + 60 ≤ s.second → exec (.censusExpiry i) s = .next missing.evaluate) ∧
      (s.second < c + 60 → exec (.censusExpiry i) s = .next s)) ∧
    (∀ a, (s.str i).cfg.cellCount ≠ 0 → (s.str i).presence = .present → (s.str i).lastArrival = some a →
      (4 * s.silenceTimeout < s.second - a → exec (.presenceTimeout i) s = .next missing.evaluate) ∧
      (s.second - a ≤ 4 * s.silenceTimeout → exec (.presenceTimeout i) s = .next s))

/-- R43, R88 (SWEEP_TIMEOUT): when the sweep timer expires the sweep is IDLE with no offer waiting, and each cell in the block
of a monitor still owed is flagged, every other field of every cell staying as it is. A string in BASELINE takes its start
spread and its setpoint and enters TRANSFER_OUT, the charger being commanded on and then the switch to EQUALISE, whose taking
starts the confirm timer; for a string in any other state nothing more changes. -/
def Obligations.SweepTimesOut : Prop :=
  ∀ (s : State) (i : StringNo) (l : List Owed), NoEvaluationDue s → (s.str i).sweep = .sweeping l (.running 0) →
    let flagged (p : Position) : Prop :=
      ∃ o ∈ l, ∃ e first count, s.mapped o.addr = some e ∧ e.block = some (first, count) ∧ first ≤ p.val ∧
        p.val < first + count
    ∃ t, exec (.sweepTimeout i) s = .next t ∧ (t.str i).sweep = .idle ∧
      (∀ p, (flagged p → t.cell i p = { s.cell i p with sampleFault := true }) ∧ (¬flagged p → t.cell i p = s.cell i p)) ∧
      (∀ o ∈ t.fp.offers, o.activity ≠ .sweep i) ∧ (∀ j, j ≠ i → t.str j = s.str j) ∧ t.requests = s.requests ∧
      ((s.str i).state ≠ .baseline →
        (t.str i).state = (s.str i).state ∧ t.bays = s.bays ∧ t.fp.chain = s.fp.chain ∧ t.fp.trunk = s.fp.trunk) ∧
      (∀ b, Working s b i .baseline →
        (t.str i).state = .transferOut ∧ (t.bay b).startSpread = t.spreadOf i ∧ (t.bay b).setpoint = t.setpointOf i ∧
        (t.bay b).eqSetpoint = t.setpointOf i ∧
        (s.fp.offers = [] → s.fp.chain.localQ.length < 7 → (t.bay b).confirm = .running s.site.confirmTime ∧
          t.fp.chain = (s.fp.chain.pushLocal (cmdFrame s.own
            (.chargerOn s.site.charger b (t.setpointOf i) ((s.bay b).limit / 100)))).pushLocal
              (cmdFrame s.own (.switch (s.str i).cfg.switch .equalise))))

/-! ## The course and the ends of a job -/

/-- R84, R90, R91, R94, R96, R97, R101, R102 (CONFIRM_EXPIRY_OUT, SAMPLE_TIMER_EXPIRY, DURATION_EXPIRY, HOLD_TIMER_EXPIRY, and
CHARGER_REPORT at EQ): each of the four expiries, and a FAULT report of the site charger for a BUSY bay, ends the job of a bay
with its class and cause: the end and the end spread are recorded, the bay's other timers stop, the string enters
TRANSFER_BACK, and the charger is commanded off and the switch to FLOAT, whose taking starts the confirm timer. The bay stays
BUSY with its limit; no result is posted, and holds, list, retry hold, age and every other string stay. A job the report finds
in BASELINE ends at once, with its result and retry hold. Before its moment an expiry changes nothing, and any other charger
report, or one that finds the string in TRANSFER_BACK, does nothing. -/
def Obligations.ExpiryEndsJob : Prop :=
  ∀ (s : State) (b : BayNo) (i : StringNo) (st : StringState), Working s b i st → NoEvaluationDue s →
    let ended (t : State) (e : EndRec) : Prop :=
      (t.str i).state = .transferBack ∧ (t.bay b).ended = some e ∧ (t.bay b).endSpread = s.spreadOf i ∧
      (t.bay b).state = .busy ∧ (t.bay b).limit = (s.bay b).limit ∧ (t.bay b).sample = .stopped ∧
      (t.bay b).window = .stopped ∧ (t.bay b).duration = .stopped ∧ (t.bay b).hold = .stopped ∧
      (s.fp.offers = [] → s.fp.chain.localQ.length < 7 →
        (t.bay b).confirm = .running s.site.confirmTime ∧ t.fp.offers = [] ∧
        t.fp.chain = (s.fp.chain.pushLocal (cmdFrame s.own (.chargerOff s.site.charger b))).pushLocal
          (cmdFrame s.own (.switch (s.str i).cfg.switch .float))) ∧
      (8 ≤ s.fp.chain.localQ.length → (t.bay b).confirm = .stopped ∧
        t.fp.offers = s.fp.offers.filter (·.activity ≠ .bay b) ++ [⟨.bay b, .chargerOff s.site.charger b⟩]) ∧
      t.holds = s.holds ∧ t.mgmt = s.mgmt ∧ t.requests = s.requests ∧ t.gas = s.gas ∧ t.water = s.water ∧
      (t.str i).retryHold = (s.str i).retryHold ∧ (t.str i).age = (s.str i).age ∧ (∀ j, j ≠ i → t.str j = s.str j) ∧
      (∀ c, c ≠ b → t.bay c = s.bay c)
    let ends (c : Instr) (e : EndRec) : Prop := ∃ t, exec c s = .next t ∧ ended t e
    (∀ src output code,
      (src ≠ s.site.charger ∨ code ≠ .fault ∨ 2 ≤ output ∨ (∃ c : BayNo, output = c.val ∧ (s.bay c).state ≠ .busy) →
        s.chargerReported src output code = s) ∧
      (src = s.site.charger → code = .fault → output = b.val →
        let t := s.chargerReported src output code
        (st ∈ [StringState.transferOut, .equalising, .held] → ended t ⟨.abnormal, .charger⟩) ∧
        (st = .baseline → EndsInBaseline s t b i ⟨.abnormal, .charger⟩ ∧ t.evalDue = true ∧ t.requests = s.requests ∧
          (t.str i).retryHold = some (s.minute + 60 * (s.profile i).retryDelay) ∧ (∀ j, j ≠ i → t.str j = s.str j) ∧
          (∀ c, c ≠ b → t.bay c = s.bay c)) ∧
        (st ∉ [StringState.baseline, .transferOut, .equalising, .held] → t = s))) ∧
    (st = .transferOut → (s.bay b).confirm = .running 0 → ends (.confirmExpiryOut b) ⟨.abnormal, .switch⟩) ∧
    (st = .equalising ∨ st = .held → (s.bay b).sample = .running 0 →
      ends (.sampleTimerExpiry b) ⟨.abnormal, .starved⟩) ∧
    (st = .equalising → (s.bay b).duration = .running 0 → ends (.durationExpiry b) ⟨.complete, .duration⟩) ∧
    (st = .held → (s.bay b).hold = .running 0 → ends (.holdTimerExpiry b) ⟨.abnormal, .gas⟩) ∧
    ((s.bay b).confirm ≠ .running 0 → exec (.confirmExpiryOut b) s = .next s) ∧
    ((s.bay b).sample ≠ .running 0 → exec (.sampleTimerExpiry b) s = .next s) ∧
    ((s.bay b).duration ≠ .running 0 → exec (.durationExpiry b) s = .next s) ∧
    ((s.bay b).hold ≠ .running 0 → exec (.holdTimerExpiry b) s = .next s)

/-- R104, R105, R109, R120, R122 (CONFIRM_EXPIRY_BACK, and SWITCH_REPORT FAULT at EQ): a string that fails to return to float,
or whose switch reports FAULT, becomes ISOLATED and its bay BLOCKED; the bay keeps its string and its end (SWITCH_FAULT where
the job had not ended yet), the result is posted with the isolated flag, the isolated count rises and STAT is asserted; every
hold but the fan's is kept. What waits of the bay is withdrawn, and the switch is commanded OPEN, after the charger OFF at a
FAULT: each command is taken by the chain-local queue when it has room and nothing else waits, and otherwise waits as the
bay's offer, an OPEN behind an OFF that waits being offered when it is taken. Then GS is told of the string that left. That
the timers of a HELD string's bay stop though paused is the model's choice (notes/assumptions/28.md). -/
def Obligations.FailedSwitchIsolates : Prop :=
  ∀ (s : State) (b : BayNo) (i : StringNo) (st : StringState), Working s b i st →
    let others := s.fp.offers.filter (·.activity ≠ .bay b)
    let room := others = [] ∧ s.fp.chain.localQ.length < 8
    let off := ChainCmd.chargerOff s.site.charger b
    let opening := ChainCmd.switch (s.str i).cfg.switch .opened
    let afterOff := s.fp.chain.pushLocal (cmdFrame s.own off)
    let opened (u : State) : Prop :=
      (room → u.fp.offers = [] ∧ u.fp.chain = s.fp.chain.pushLocal (cmdFrame s.own opening)) ∧
      (¬room → u.fp.offers = others ++ [⟨.bay b, opening⟩] ∧ u.fp.chain = s.fp.chain)
    let offAndOpened (u : State) : Prop :=
      (room → afterOff.localQ.length < 8 →
        u.fp.offers = [] ∧ u.fp.chain = afterOff.pushLocal (cmdFrame s.own opening) ∧ (u.bay b).second = none) ∧
      (room → 8 ≤ afterOff.localQ.length →
        u.fp.offers = [⟨.bay b, opening⟩] ∧ u.fp.chain = afterOff ∧ (u.bay b).second = none) ∧
      (¬room → u.fp.offers = others ++ [⟨.bay b, off⟩] ∧ u.fp.chain = s.fp.chain ∧ (u.bay b).second = some opening)
    let isolated (t : State) (e : EndRec) (commanded : State → Prop) : Prop :=
      (∃ u : State, commanded u ∧ u.gas = s.gas ∧ u.site = s.site ∧ t = u.noteBayExit.noteIsolated) ∧
      (t.str i).state = .isolated ∧ (t.bay b).state = .blocked ∧ (t.bay b).string = some i ∧ (t.str i).bay = some b ∧
      (t.bay b).ended = some e ∧ (t.bay b).limit = (s.bay b).limit ∧ (t.bay b).confirm = .stopped ∧
      (∃ r, t.mgmt.results.getLast? = some r ∧ r.string = i ∧ r.cls = e.cls ∧ r.cause = e.cause ∧ r.isolated = true ∧
        r.startMinute = (s.str i).startMinute) ∧
      t.gas.isolated = s.gas.isolated + 1 ∧ t.gas.stat = true ∧ t.gas.bayStrings = s.gas.bayStrings - 1 ∧
      (∀ h ∈ s.holds, h.holder ≠ .fan → h ∈ t.holds) ∧
      (e.cls = .complete → (t.str i).age = 0 ∧ (t.str i).retryHold = none)
    (∀ e, st = .transferBack → (s.bay b).ended = some e → (s.bay b).confirm = .running 0 → NoEvaluationDue s →
      ∃ t, exec (.confirmExpiryBack b) s = .next t ∧ isolated t e opened) ∧
    (∀ m, m.string = some i → m.addr = (s.str i).cfg.switch →
      (∀ e, st = .transferBack → (s.bay b).ended = some e → isolated (s.switchReported m .fault) e offAndOpened) ∧
      (st ∈ [StringState.baseline, .transferOut, .equalising, .held] →
        isolated (s.switchReported m .fault) ⟨.abnormal, .switchFault⟩ fun u => offAndOpened u ∧
          ∀ timer ∈ [Bay.sample, Bay.window, Bay.duration, Bay.hold], timer (u.bay b) = .stopped)) ∧
    ((s.bay b).confirm ≠ .running 0 → exec (.confirmExpiryBack b) s = .next s)

/-- R89, R103, R106, R108 (SWITCH_REPORT at EQ): with the confirm timer running, EQUALISE takes a string from TRANSFER_OUT to
EQUALISING while the gas state is NORMAL and to HELD while it is HOLD, its OV qualifiers cleared and its timers started or
paused; FLOAT takes a string from TRANSFER_BACK to SETTLING, or to FLOAT when the settle time is 0, its bay FREE and its
switch hold gone. Every other position but FAULT, and a report from another address, changes nothing. -/
def Obligations.SwitchReportConfirms : Prop :=
  ∀ (s : State) (b : BayNo) (i : StringNo) (st : StringState) (m : MapEntry), Working s b i st → m.string = some i →
    let p := s.profile i
    let confirmed := ∃ n, (s.bay b).confirm = .running n
    (m.addr ≠ (s.str i).cfg.switch → ∀ x, s.switchReported m x = s) ∧
    (m.addr = (s.str i).cfg.switch →
      (∀ x, x ≠ .fault → ¬(st = .transferOut ∧ x = .equalise ∧ confirmed) → ¬(st = .transferBack ∧ x = .float ∧ confirmed) →
        s.switchReported m x = s) ∧
      (st = .transferOut → confirmed → s.gas.state ≠ .trip →
        let t := s.switchReported m .equalise
        (∀ q, (t.cell i q).ov = { state := false, agree := 0 }) ∧ (t.bay b).confirm = .stopped ∧
        (t.bay b).sample = .running s.site.sampleTimeout ∧ (t.bay b).prevMean = none ∧ (t.bay b).plateau = 0 ∧
        (t.bay b).count = 0 ∧ (t.bay b).sum = 0 ∧ (t.bay b).eqSetpoint = (s.bay b).eqSetpoint ∧
        (s.gas.state = .normal → (t.str i).state = .equalising ∧ (t.bay b).duration = .running (p.maxDuration * 60) ∧
          (t.bay b).window = .running (p.window * 60) ∧ t.fp = s.fp) ∧
        (s.gas.state = .hold → (t.str i).state = .held ∧ (t.bay b).duration = .paused (p.maxDuration * 60) ∧
          (t.bay b).window = .paused (p.window * 60) ∧ (t.bay b).hold = .running (s.site.holdLimit * 60) ∧
          (t.bay b).setpoint = p.floatV * (s.str i).cfg.cellCount / 10)) ∧
      (st = .transferBack → confirmed →
        let t := s.switchReported m .float
        t.bay b = {} ∧ (t.str i).bay = none ∧ ⟨(s.str i).cfg.switch, .switch i⟩ ∉ t.holds ∧
        (p.settle ≠ 0 → (t.str i).state = .settling ∧ (t.str i).settle = .running (p.settle * 60)) ∧
        (p.settle = 0 → (t.str i).state = .float) ∧ t.gas.bayStrings = s.gas.bayStrings - 1 ∧
        (∀ e, (s.bay b).ended = some e →
          (∃ r, t.mgmt.results.getLast? = some r ∧ r.string = i ∧ r.cls = e.cls ∧ r.cause = e.cause ∧
            r.isolated = false) ∧
          (e.cls = .complete → (t.str i).age = 0 ∧ (t.str i).retryHold = none) ∧
          (e.cls ≠ .complete → e.cause ≠ .cancelled → e.cause ≠ .restart →
            (t.str i).retryHold = some (s.minute + 60 * p.retryDelay)))))

/-- R56, R92, R93 (WINDOW_EXPIRY): a void window keeps the plateau count and the previous mean; a plateau window adds one to
the count and any other sets it to 0, and the new mean is kept. A count that reaches the profile's ends the job COMPLETE
PLATEAU; otherwise the setpoint is recomputed, commanded only when it differs, and a new window starts. -/
def Obligations.WindowJudged : Prop :=
  ∀ (s : State) (b : BayNo) (i : StringNo), Working s b i .equalising → NoEvaluationDue s →
    (s.bay b).window = .running 0 →
    let r := s.bay b
    let p := s.profile i
    let mean := r.sum.tdiv r.count
    let goesOn (n : Nat) (m : Option Int) : Prop := ∃ t, exec (.windowExpiry b) s = .next t ∧
      (t.str i).state = .equalising ∧ (t.bay b).plateau = n ∧ (t.bay b).prevMean = m ∧ (t.bay b).count = 0 ∧
      (t.bay b).sum = 0 ∧ (t.bay b).window = .running (p.window * 60) ∧ (t.bay b).duration = r.duration ∧
      (t.bay b).setpoint = s.setpointOf i ∧ (s.setpointOf i = r.setpoint → t.fp = s.fp) ∧ t.holds = s.holds ∧
      t.mgmt = s.mgmt
    let plateauEnds (n : Nat) : Prop := ∃ t, exec (.windowExpiry b) s = .next t ∧ (t.str i).state = .transferBack ∧
      (t.bay b).ended = some ⟨.complete, .plateau⟩ ∧ (t.bay b).plateau = n ∧ (t.bay b).prevMean = some mean ∧
      t.mgmt = s.mgmt
    (r.count < 3 → r.plateau < p.plateauRequired → goesOn r.plateau r.prevMean) ∧
    (3 ≤ r.count →
      (∀ m w, r.prevMean = some m → s.spreadOf i = some w → (mean - m).natAbs ≤ p.tolerance → w ≤ p.spreadLimit →
        (p.plateauRequired ≤ r.plateau + 1 → plateauEnds (r.plateau + 1)) ∧
        (r.plateau + 1 < p.plateauRequired → goesOn (r.plateau + 1) (some mean))) ∧
      (r.prevMean = none ∨ s.spreadOf i = none ∨ (∃ m, r.prevMean = some m ∧ p.tolerance < (mean - m).natAbs) ∨
          (∃ w, s.spreadOf i = some w ∧ p.spreadLimit < w) →
        0 < p.plateauRequired → goesOn 0 (some mean))) ∧
    ∀ c, (s.bay c).window ≠ .running 0 → exec (.windowExpiry c) s = .next s

/-! ## Gas, the fan and the trip input -/

/-- R116, R119, R120, R121 (LOST_TIMER_EXPIRY, RUN_ON_EXPIRY, and the fan control): a LIVE sensor whose lost timer expires is
LOST with the qualifier HIGH, NORMAL becomes HOLD with reason SENSOR_LOST and strings in EQUALISING are HELD, HOLD takes the
reason, TRIP stays. The need stands while a string is in a bay state or the gas state is not NORMAL. When it arises an OFF fan
starts (the hold is taken, then ON is offered) and one in RUN_ON is ON again; when it ends a fan that is ON runs on for the
site's minutes, or stops at once when they are 0; a run-on that expires stops it (OFF is offered, and the hold released). A
string that enters or leaves the bay states moves the count. A changed fan address drops the old hold: to 0 the fan is OFF; a
fan that runs is held and commanded ON at the new one; one that is OFF starts there when the old address was 0 and the need
stands. With fan address 0 the need acts on nothing, and before its moment no expiry changes anything. -/
def Obligations.GasTimersExpire : Prop :=
  ∀ s : State,
    let others := s.fp.offers.filter (·.activity ≠ .fan)
    let offered (u t : State) (on : Bool) : Prop :=
      (u.fp.offers = [] → u.fp.chain.localQ.length < 8 →
        t.fp.chain = u.fp.chain.pushLocal (cmdFrame s.own (.fan s.site.fan on)) ∧ t.fp.offers = []) ∧
      (u.fp.offers ≠ [] ∨ 8 ≤ u.fp.chain.localQ.length →
        t.fp.chain = u.fp.chain ∧ t.fp.offers = u.fp.offers ++ [⟨.fan, .fan s.site.fan on⟩])
    let need (g : Gas) : Prop := 0 < g.bayStrings ∨ g.state ≠ .normal
    let started (base t : State) (g : Gas) : Prop :=
      let u := { base with fp := { s.fp with offers := others } }.takeHold s.site.fan .fan
      offered u t true ∧ t = { u with fp := { u.fp with chain := t.fp.chain, offers := t.fp.offers }, gas := g }
    let stopped (t : State) (g : Gas) : Prop :=
      offered { s with fp := { s.fp with offers := others } } t false ∧
      t = { s with fp := { s.fp with chain := t.fp.chain, offers := t.fp.offers }
                   holds := s.holds.filter (· ≠ ⟨s.site.fan, .fan⟩), gas := { g with fan := .off, runOn := .stopped } }
    let follows (t : State) (g : Gas) : Prop :=
      (s.site.fan = 0 ∨ (need s.gas ↔ need g) → t = { s with gas := g }) ∧
      (s.site.fan ≠ 0 → ¬need s.gas → need g →
        (s.gas.fan = .off → started s t { g with fan := .on, runOn := .stopped }) ∧
        (s.gas.fan = .on → t = { s with gas := g }) ∧
        (s.gas.fan = .runOn → t = { s with gas := { g with fan := .on, runOn := .stopped } })) ∧
      (s.site.fan ≠ 0 → need s.gas → ¬need g →
        (s.gas.fan = .on → 0 < s.site.runOn →
          t = { s with gas := { g with fan := .runOn, runOn := .running (s.site.runOn * 60) } }) ∧
        (s.gas.fan = .on → s.site.runOn = 0 → stopped t g) ∧
        (s.gas.fan ≠ .on → t = { s with gas := g }))
    (NoEvaluationDue s → s.gas.sensor = .live → s.gas.lost = .running 0 →
      ∃ t, exec .lostTimerExpiry s = .next t ∧ t.gas.sensor = .lost ∧ t.gas.lost = .stopped ∧
        t.gas.qualifier = { state := true, agree := 0 } ∧
        (s.gas.state = .normal → t.gas.state = .hold ∧ t.gas.reason = .sensorLost ∧ t.gas.stat = true ∧
          (s.site.fan ≠ 0 → s.gas.bayStrings = 0 → t.gas.fan = .on ∧ t.gas.runOn =
            (if s.gas.fan = .on then s.gas.runOn else .stopped)) ∧
          (s.site.fan ≠ 0 → s.gas.bayStrings = 0 → s.gas.fan = .off → t.holderOf s.site.fan ≠ none) ∧
          ∀ b i, Working s b i .equalising → (t.str i).state = .held) ∧
        (s.gas.state = .hold → t.gas.state = .hold ∧ t.gas.reason = .sensorLost ∧ t.bays = s.bays) ∧
        (s.gas.state = .trip → t.gas.state = .trip ∧ t.gas.reason = s.gas.reason ∧ t.bays = s.bays)) ∧
    (s.gas.lost ≠ .running 0 → exec .lostTimerExpiry s = .next s) ∧
    (NoEvaluationDue s → s.gas.fan = .runOn → s.gas.runOn = .running 0 →
      ∃ t, exec .runOnExpiry s = .next t ∧ stopped t s.gas) ∧
    (NoEvaluationDue s → s.gas.runOn ≠ .running 0 → exec .runOnExpiry s = .next s) ∧
    follows s.noteBayEntry { s.gas with bayStrings := s.gas.bayStrings + 1 } ∧
    follows s.noteBayExit { s.gas with bayStrings := s.gas.bayStrings - 1 } ∧
    (∀ old : Byte,
      let t := s.fanMoved old
      let base := { s with fp := { s.fp with offers := others }, holds := s.holds.filter (· ≠ ⟨old, .fan⟩) }
      (s.site.fan = 0 → t = { base with gas := { s.gas with fan := .off, runOn := .stopped } }) ∧
      (s.site.fan ≠ 0 → s.gas.fan ≠ .off → started base t s.gas) ∧
      (s.site.fan ≠ 0 → s.gas.fan = .off → old = 0 → need s.gas →
        started base t { s.gas with fan := .on, runOn := .stopped }) ∧
      (s.site.fan ≠ 0 → s.gas.fan = .off → ¬(old = 0 ∧ need s.gas) → t = base))

/-- R31, R99, R112, R117, R122 (TRIP_INPUT_LOW, TRIP_INPUT_HIGH, TRIP_FILTER_SAMPLE): a sample of the filter's level clears
the agree count, another raises it, and the third in a row flips the level. A flip to HIGH changes the gas state no
further; a flip to LOW gives TRIP with reason TRIP_INPUT from NORMAL or HOLD, asserts STAT, and ends the job of every
string in TRANSFER_OUT, EQUALISING and HELD with cause GAS_TRIP.
That each row is one sample is the model's choice (notes/assumptions/23.md). -/
def Obligations.TripFilterFlips : Prop :=
  ∀ s : State, NoEvaluationDue s →
    exec .tripInputLow s = exec (.tripFilterSample .low) s ∧ exec .tripInputHigh s = exec (.tripFilterSample .high) s ∧
    (∀ level, level = s.gas.filter →
      exec (.tripFilterSample level) s = .next { s with gas := { s.gas with filterAgree := 0 } }) ∧
    (∀ level, level ≠ s.gas.filter → s.gas.filterAgree < 2 →
      exec (.tripFilterSample level) s = .next { s with gas := { s.gas with filterAgree := s.gas.filterAgree + 1 } }) ∧
    (s.gas.filter = .low → s.gas.filterAgree = 2 →
      exec (.tripFilterSample .high) s = .next { s with gas := { s.gas with filter := .high, filterAgree := 0 } }) ∧
    (s.gas.filter = .high → s.gas.filterAgree = 2 →
      ∃ t, exec (.tripFilterSample .low) s = .next t ∧ t.gas.filter = .low ∧ t.gas.filterAgree = 0 ∧
        t.gas.state = .trip ∧ t.gas.reason = .tripInput ∧ (s.gas.state ≠ .trip → t.gas.stat = true) ∧
        (s.gas.state ≠ .trip → ∀ b i st, Working s b i st → (∀ c, c ≠ b → (s.bay c).string ≠ some i) →
          st ∈ [StringState.transferOut, .equalising, .held] →
          (t.str i).state = .transferBack ∧ (t.bay b).ended = some ⟨.abnormal, .gasTrip⟩))

/-- R114, R115, R120 (GAS_REPORT at GS): a report from another source, or with the fault flag, changes nothing; any other
restarts the lost timer at four sample timeouts, makes a LOST sensor LIVE with the qualifier HIGH, and then advances the
qualifier: HIGH at or above the hold threshold, LOW at or below the release threshold, and neither between them, which clears
the count. A flip to HIGH takes NORMAL to HOLD CONCENTRATION, a flip to LOW takes HOLD to NORMAL, and TRIP stays; with no
string in a bay state the first starts the fan and the second its run-on. -/
def Obligations.GasReportJudged : Prop :=
  ∀ (s : State) (src : Byte) (c : Nat),
    (∀ fault, src ≠ s.site.gasSensor ∨ s.site.gasSensor = 0 ∨ fault = true → s.gasReported src c fault = s) ∧
    (src = s.site.gasSensor → s.site.gasSensor ≠ 0 →
      let t := s.gasReported src c false
      let before : Qualifier := if s.gas.sensor = .lost then { state := true, agree := 0 } else s.gas.qualifier
      let after : Qualifier :=
        if s.site.holdThreshold ≤ c then before.advance true
        else if c ≤ s.site.releaseThreshold then before.advance false
        else { before with agree := 0 }
      t.gas.lost = .running (4 * s.site.sampleTimeout) ∧ t.gas.qualifier = after ∧
      t.gas.sensor = (if s.gas.sensor = .lost then .live else s.gas.sensor) ∧
      (after.state = before.state → t.gas.state = s.gas.state) ∧
      (after.state = before.state → s.gas.sensor = .lost → s.gas.state = .hold → t.gas.reason = .concentration) ∧
      (s.gas.state = .trip → t.gas.state = .trip) ∧
      (after.state = true → before.state = false → s.gas.state = .normal →
        t.gas.state = .hold ∧ t.gas.reason = .concentration ∧
        (s.gas.bayStrings = 0 → s.gas.fan = .off → s.site.fan ≠ 0 → t.gas.fan = .on)) ∧
      (after.state = false → before.state = true → s.gas.state = .hold →
        t.gas.state = .normal ∧ t.gas.reason = .none ∧ t.evalDue = true ∧
        (s.gas.bayStrings = 0 → s.gas.fan = .on → s.site.fan ≠ 0 → 0 < s.site.runOn →
          t.gas.fan = .runOn ∧ t.gas.runOn = .running (s.site.runOn * 60))))

/-! ## Watering -/

/-- R60, R132, R133, R143 to R146: the next-fill step. With the list empty the round ends COMPLETE, ALL_FULL or FAULTS; when
the available water does not cover the head it ends ABNORMAL TANK with every position counted as not reached; the end posts
the round's result, puts the string in FLOAT, releases the manifold holds and empties the record, and Q becomes 0 after
ALL_FULL of a FULL build and is otherwise reduced by the round's total. Otherwise the head is opened: it leaves the list, its
attempt count rises, and the fill is OUTSTANDING with its timer at max open + 5 s when the queue takes the command, and
OFFERED until then. -/
def Obligations.NextFillStep : Prop :=
  ∀ (s : State) (i : StringNo),
    s.water.round.state = .filling → s.water.round.fill = none → s.water.pendingClose = none →
    s.water.round.string = some i →
    let w := s.water.round
    let ends (e : EndRec) (missed : Nat) : Prop :=
      s.nextFill.water.round = {} ∧ (s.nextFill.str i).state = .float ∧ s.nextFill.evalDue = true ∧
      s.nextFill.holds = s.holds.filter (·.holder ≠ .manifold) ∧ s.nextFill.water.tank = s.water.tank ∧
      (s.nextFill.str i).q = (if e.cause = .allFull ∧ w.build = some .full then 0
        else reduceQ (s.str i).q w.total (s.str i).cfg.cellCount (s.profile i).gassing) ∧
      ∃ r, s.nextFill.mgmt.results.getLast? = some r ∧ r.string = i ∧ r.cls = e.cls ∧ r.cause = e.cause ∧
        r.startMinute = w.startMinute ∧ r.part = .watering w.filled w.total missed w.faulted
    (w.fillList = [] → w.faulted = [] → ends ⟨.complete, .allFull⟩ 0) ∧
    (w.fillList = [] → w.faulted ≠ [] → ends ⟨.complete, .faults⟩ 0) ∧
    (∀ p rest, w.fillList = p :: rest →
      let volume := (s.cell i p).override.volume.getD s.site.fillVolume
      let maxOpen := (s.cell i p).override.maxOpen.getD s.site.maxOpen
      let duty := (s.cell i p).override.duty.getD s.site.duty
      ((s.water.tank : Int) - s.water.reserve < volume → ends ⟨.abnormal, .tank⟩ w.fillList.length) ∧
      (∀ b, (volume : Int) ≤ (s.water.tank : Int) - s.water.reserve → (s.cell i p).binding = some b →
        let t := s.nextFill
        let cmd := ChainCmd.valveOpen b.addr b.channel s.site.pullIn duty maxOpen
        let opened (ph : FillPhase) : Option Fill :=
          some { pos := p, addr := b.addr, channel := b.channel, volume := volume, maxOpen := maxOpen, phase := ph }
        t.water.round.fillList = rest ∧ t.water.round.attempts[p] = w.attempts[p] + 1 ∧ t.water.round.state = .filling ∧
        (s.offerRoom = true → t.water.round.fill = opened .outstanding ∧
          t.water.round.fillTimer = .running (maxOpen + 5) ∧
          t.fp = { s.fp with chain := s.fp.chain.pushLocal (cmdFrame s.own cmd) }) ∧
        (s.offerRoom = false → t.water.round.fill = opened .offered ∧
          t.fp = { s.fp with offers := s.fp.offers ++ [⟨.watering, cmd⟩] })))

/-- R128, R134 to R138, R140 (VALVE_REPORT at WT): a channel above 7 is discarded; any other report lowers the tank estimate,
not below 0, and raises the dispensed total of the cell bound to its address and channel. A report that does not answer
the outstanding fill, with no fill OFFERED, does no more. One that answers it while FILLING raises the round total, gives
the cell its last fill code, and: FULL makes the cell OK and counts it filled; MORE returns it to the list's tail below
the third attempt and enters it NOT_FULL at the third; FAULT sets its flag and enters it VALVE_FAULT; the next-fill step
follows. -/
def Obligations.ValveReportTaken : Prop :=
  ∀ (s : State) (src channel : Byte) (code : ValveCode) (ml : Nat),
    let t := s.valveReported src channel code ml
    (7 < channel.toNat → t = s) ∧
    (channel.toNat ≤ 7 →
      t.water.tank = s.water.tank - ml ∧ t.water.reserve = s.water.reserve ∧
      (∀ i p, (t.cell i p).dispensed =
        if (s.cell i p).binding = some ⟨src, channel⟩ then min ((s.cell i p).dispensed + ml) 65535
        else (s.cell i p).dispensed) ∧
      ((∀ f, s.water.round.fill = some f → f.phase = .outstanding ∧ ¬(f.addr = src ∧ f.channel = channel)) →
        t.water.round = s.water.round ∧ t.fp = s.fp ∧ t.mgmt = s.mgmt ∧ t.requests = s.requests ∧
        (∀ i p, { t.cell i p with dispensed := (s.cell i p).dispensed } = s.cell i p)) ∧
      (∀ f i, s.water.round.state = .filling → s.water.round.string = some i →
        s.water.round.fill = some f → f.phase = .outstanding → f.addr = src → f.channel = channel →
        (t.cell i f.pos).lastFill = some code ∧
        (code = .full → f.pos.val < (s.str i).cfg.cellCount →
          (t.cell i f.pos).level = .ok ∧ (t.cell i f.pos).levelQ = { state := false, agree := 0 }) ∧
        (code ≠ .full → (t.cell i f.pos).level = (s.cell i f.pos).level) ∧
        ((t.cell i f.pos).valveFault = true ↔ code = .fault ∨ (s.cell i f.pos).valveFault = true) ∧
        ∃ u : State, t = u.nextFill ∧ u.water.round.state = .filling ∧ u.water.round.fill = none ∧
          u.water.round.fillTimer = .stopped ∧ u.water.round.total = min (s.water.round.total + ml) 65535 ∧
          u.water.round.filled = s.water.round.filled + (if code = .full then 1 else 0) ∧
          u.water.round.fillList = s.water.round.fillList ++
            (if code = .more ∧ s.water.round.attempts[f.pos] < 3 then [f.pos] else []) ∧
          u.water.round.faulted = s.water.round.faulted ++
            (if code = .fault then [⟨f.pos, .valveFault⟩]
             else if code = .more ∧ 3 ≤ s.water.round.attempts[f.pos] then [⟨f.pos, .notFull⟩] else [])))

/-- R125, R139, R142 to R146 (FILL_TIMER_EXPIRY, ENDING_FILL_EXPIRY): while FILLING, an expiry with no slot for the CLOSE
enters the cell NO_REPORT, makes the fill absent and leaves the CLOSE pending; with a slot the CLOSE is taken, none is
pending, and the next-fill step is taken. While ENDING, it ends the round with its recorded end, the cancelled cell and
every listed position counted as not reached. Before its moment neither changes anything. -/
def Obligations.FillTimersExpire : Prop :=
  ∀ (s : State) (f : Fill) (i : StringNo), NoEvaluationDue s → s.water.round.fill = some f →
    s.water.round.string = some i →
    let w := s.water.round
    let noted := { w with faulted := w.faulted ++ [⟨f.pos, .noReport⟩], fill := none, fillTimer := .stopped }
    let closing (u : State) := { u with water := { u.water with round := noted, pendingClose := none } }
    (w.state = .filling → w.fillTimer = .running 0 → s.offerRoom = false →
      exec .fillTimerExpiry s = .next { s with
        water := { s.water with round := noted, pendingClose := some ⟨f.addr, f.channel⟩ }
        fp := { s.fp with offers := s.fp.offers ++ [⟨.watering, .valveClose f.addr f.channel⟩] } }) ∧
    (w.state = .filling → w.fillTimer = .running 0 → s.offerRoom = true →
      exec .fillTimerExpiry s =
        .next ((closing s).modPort .chain (·.pushLocal (cmdFrame s.own (.valveClose f.addr f.channel)))).nextFill.settle) ∧
    (∀ e, w.state = .ending → w.fillTimer = .running 0 → w.ended = some e →
      ∃ t r, exec .endingFillExpiry s = .next t ∧ t.mgmt.results.getLast? = some r ∧ r.string = i ∧ r.cls = e.cls ∧
        r.cause = e.cause ∧ r.part = .watering w.filled w.total (w.fillList.length + 1) w.faulted ∧
        (s.requests = [] → t.water.round = {} ∧ (t.str i).state = .float ∧
          (e.cause ≠ .allFull →
            (t.str i).q = reduceQ (s.str i).q w.total (s.str i).cfg.cellCount (s.profile i).gassing) ∧
          t.holds = s.holds.filter (·.holder ≠ .manifold))) ∧
    (w.fillTimer ≠ .running 0 → exec .fillTimerExpiry s = .next s ∧ exec .endingFillExpiry s = .next s)

/-! ## Reports -/

/-- R7, R23, R38 (CELL_REPORT to GAS_REPORT): a report from a source mapped with its role is taken in: its owner acts on the
values it carries, the evaluations it triggers are made, and the frame goes on when the entry's action is PASS.
That the evaluation is made before the frame goes on is read from R75 and R7 (DEDUCED, notes/assumptions/15.md). -/
def Obligations.ReportsHandledAndPassedOn : Prop :=
  ∀ (s : State) (dst src : Byte) (e : MapEntry),
    (∀ samples, 1 ≤ samples.length → samples.length ≤ 4 → ReportArrives s dst src e .cellMonitor →
      exec (.cellReport dst src samples) s =
        .next ((s.cellReported e samples).settle.passOn e (mkFrame dst src 0x10 (cellPayload samples)))) ∧
    (∀ current voltage, ReportArrives s dst src e .stringSensor →
      exec (.stringReport dst src current voltage) s =
        .next ((s.stringReported e current.toInt voltage.toNat).settle.passOn e
          (mkFrame dst src 0x11 (stringPayload current voltage)))) ∧
    (∀ position code, ReportArrives s dst src e .levelProbe →
      exec (.levelReport dst src position code) s =
        .next ((s.levelReported e position.toNat code).settle.passOn e
          (mkFrame dst src 0x12 (levelPayload position code)))) ∧
    (∀ channel code ml, ReportArrives s dst src e .valve →
      exec (.valveReport dst src channel code ml) s =
        .next ((s.valveReported src channel code ml.toNat).settle.passOn e
          (mkFrame dst src 0x13 (valvePayload channel code ml)))) ∧
    (∀ position, ReportArrives s dst src e .switch →
      exec (.switchReport dst src position) s =
        .next ((s.switchReported e position).settle.passOn e (mkFrame dst src 0x14 (switchPayload position)))) ∧
    (∀ output state voltage current, ReportArrives s dst src e .charger →
      exec (.chargerReport dst src output state voltage current) s =
        .next ((s.chargerReported src output.toNat state).settle.passOn e
          (mkFrame dst src 0x15 (chargerPayload output state voltage current)))) ∧
    (∀ concentration status, ReportArrives s dst src e .gasSensor →
      exec (.gasReport dst src concentration status) s =
        .next ((s.gasReported src concentration.toNat (status.getLsbD 0)).settle.passOn e
          (mkFrame dst src 0x16 (gasPayload concentration status))))

/-- R28, R31 to R34, R42, R67, R68, R95 (CELL_REPORT and LEVEL_REPORT at Intake): a report's samples, as many as the entry has
cells, are written in order from the first cell of the block, and to no other cell: the values and the sample second always,
the fault flag as the sample says; a good sample of a fitted position advances the OT qualifier, and the OV qualifier while
the string is EQUALISING or HELD; the third disagreeing sample in a row flips a qualifier, and an agreeing one clears its
count. Then the flips act: the first OV or OT flip to set ends a running job, CELL_OV or THERMAL, and a flip of OT to clear
calls for an evaluation; then the report of an owed and asked monitor leaves the owed list, and the last completes the sweep.
That order is the model's choice (notes/assumptions/16.md). A level reading of an unfitted position does nothing; PROBE_FAULT
gives FAULT and clears the count; LOW or OK moves the level state on a flip, and on an agreement from UNKNOWN or FAULT; a flip
to LOW raises WATERING from LEVEL, a flip to OK withdraws an entry that rests on LEVEL alone when no fitted position is LOW,
and leaving FAULT calls for an evaluation. -/
def Obligations.CellSamplesWritten : Prop :=
  (∀ (s : State) (i : StringNo) (first : Nat) (samples : List CellSample), first + samples.length ≤ 32 →
    ∀ p : Position, let c := s.cell i p
      let c' := (s.applySamples i first samples).cell i p
      (p.val < first ∨ first + samples.length ≤ p.val → c' = c) ∧
      (∀ x, first ≤ p.val → samples[p.val - first]? = some x →
        let bad := 3000 < x.voltage.toNat ∨ x.tHalf.toInt < -80 ∨ 170 < x.tHalf.toInt ∨ x.status.getLsbD 0 = true
        let charging := (s.str i).state = .equalising ∨ (s.str i).state = .held
        c'.voltage = x.voltage.toNat ∧ c'.tHalf = x.tHalf.toInt ∧ c'.sampleSecond = some s.second ∧
        (c'.sampleFault = true ↔ bad) ∧ c'.levelQ = c.levelQ ∧ c'.level = c.level ∧ c'.binding = c.binding ∧
        c'.valveFault = c.valveFault ∧ c'.dispensed = c.dispensed ∧
        (bad ∨ (s.str i).cfg.cellCount ≤ p.val → c'.ov = c.ov ∧ c'.ot = c.ot) ∧
        (¬bad → p.val < (s.str i).cfg.cellCount →
          c'.ot = c.ot.advance (decide (((s.profile i).otLimit : Int) ≤ x.tHalf.toInt)) ∧
          (charging → c'.ov = c.ov.advance (decide ((s.profile i).ovLimit ≤ x.voltage.toNat))) ∧
          (¬charging → c'.ov = c.ov)))) ∧
  (∀ (q : Qualifier) (cond : Bool),
    (cond = q.state → q.advance cond = { q with agree := 0 }) ∧
    (cond ≠ q.state → q.agree = 2 → q.advance cond = { state := cond, agree := 0 }) ∧
    (cond ≠ q.state → q.agree < 2 → q.advance cond = { q with agree := q.agree + 1 })) ∧
  (∀ (c : Cell) (low : Bool),
    (c.takeLevel low).levelQ = c.levelQ.advance low ∧
    (low ≠ c.levelQ.state → c.levelQ.agree = 2 → (c.takeLevel low).level = if low then .low else .ok) ∧
    (low ≠ c.levelQ.state → c.levelQ.agree < 2 → (c.takeLevel low).level = c.level) ∧
    (low = c.levelQ.state →
      (c.takeLevel low).level = if c.level = .unknown ∨ c.level = .fault then (if low then .low else .ok) else c.level)) ∧
  (∀ (s : State) (m : MapEntry) (samples : List CellSample) (i : StringNo) (first count : Nat),
    m.string = some i → m.block = some (first, count) → first + count ≤ 32 →
    let applied := s.applySamples i first (samples.take count)
    let t := s.cellReported m samples
    let ovSet (p : Position) := (s.cell i p).ov.state = false ∧ (applied.cell i p).ov.state = true
    let otSet (p : Position) := (s.cell i p).ot.state = false ∧ (applied.cell i p).ot.state = true
    let otClear (p : Position) := (s.cell i p).ot.state = true ∧ (applied.cell i p).ot.state = false
    (∀ j p, t.cell j p = applied.cell j p) ∧
    ((∃ p, otClear p) → t.evalDue = true) ∧
    ((∀ p, ¬ovSet p ∧ ¬otSet p ∧ ¬otClear p) → t = applied.answerSweep i m.addr) ∧
    ((s.str i).bay = none → (∀ p, ¬otClear p) → t = applied.answerSweep i m.addr) ∧
    (∀ b p, ovSet p ∨ otSet p → (∀ q, q < p → ¬ovSet q ∧ ¬otSet q) →
      (Working s b i .equalising ∨ Working s b i .held ∨ Working s b i .transferOut →
        (t.str i).state = .transferBack ∧ ((ovSet p ∧ (t.bay b).ended = some ⟨.abnormal, .cellOv⟩) ∨
          (¬ovSet p ∧ (t.bay b).ended = some ⟨.abnormal, .thermal⟩))) ∧
      (Working s b i .baseline → EndsInBaseline applied t b i ⟨.abnormal, .thermal⟩ ∧ t.evalDue = true ∧
        (t.str i).retryHold = some (s.minute + 60 * (s.profile i).retryDelay)) ∧
      (Working s b i .transferBack → (t.str i).state = .transferBack ∧ t.bay b = s.bay b))) ∧
  (∀ (s : State) (i : StringNo) (src : Byte) (l : List Owed) (timer : Timer), (s.str i).sweep = .sweeping l timer →
    let answers := ∃ o ∈ l, o.addr = src ∧ o.asked = true
    let t := s.answerSweep i src
    (¬answers → t = s) ∧
    (answers → l.filter (·.addr ≠ src) ≠ [] →
      t = s.modStr i fun r => { r with sweep := .sweeping (l.filter (·.addr ≠ src)) timer }) ∧
    (answers → l.filter (·.addr ≠ src) = [] → (t.str i).sweep = .idle ∧
      ((s.str i).state ≠ .baseline → t = s.modStr i fun r => { r with sweep := .idle }) ∧
      ∀ b, Working s b i .baseline → (t.str i).state = .transferOut ∧ (t.bay b).startSpread = s.spreadOf i ∧
        (t.bay b).setpoint = s.setpointOf i ∧ (t.bay b).eqSetpoint = s.setpointOf i)) ∧
  (∀ (s : State) (i : StringNo) (src : Byte), (s.str i).sweep = .idle → s.answerSweep i src = s) ∧
  (∀ (s : State) (m : MapEntry) (i : StringNo) (position : Nat) (code : LevelCode), m.string = some i →
    ((s.str i).cfg.cellCount ≤ position ∨ 32 ≤ position → s.levelReported m position code = s) ∧
    (∀ p : Position, position = p.val → p.val < (s.str i).cfg.cellCount →
      let c := s.cell i p
      let t := s.levelReported m position code
      (code = .probeFault →
        t = s.modCell i p fun c => { c with level := .fault, levelQ := { c.levelQ with agree := 0 } }) ∧
      (∀ low : Bool, code = (if low then .low else .ok) →
        let v := s.modCell i p (·.takeLevel low)
        let flips := low ≠ c.levelQ.state ∧ c.levelQ.agree = 2
        let leaves := c.level = .fault ∧ (c.takeLevel low).level ≠ .fault
        let raises := flips ∧ low = true ∧ (s.str i).cfg.level ≠ 0
        let withdraws := flips ∧ low = false ∧ ∀ q : Position, q.val < (s.str i).cfg.cellCount → (v.cell i q).level ≠ .low
        t = { v with requests := t.requests, evalDue := t.evalDue } ∧
        (t.evalDue = true ↔ s.evalDue = true ∨ raises ∨ leaves) ∧
        (raises → t.requests = raiseInto s.requests i .watering .level (s.str i).cfg.level s.second) ∧
        (withdraws → t.requests = s.requests.filter fun e =>
          !(e.string = i && e.kind = .watering && e.sources = { level := true })) ∧
        (¬raises → ¬withdraws → t.requests = s.requests))))

/-- R36, R37, R39, R91 (STRING_REPORT at Intake): a report for an unfitted string, or from another sensor, changes nothing. An
applied one clamps the current, adds current times interval to Q and, while EQUALISING or HELD, to the job charge, both
saturating at 2^40 − 1; sets the last arrival, current and voltage; makes the string PRESENT, posting a result where it
was not; and, for a bay whose string is EQUALISING or HELD, restarts the sample timer, the EQUALISING one counting the
report into its window. -/
def Obligations.StringReportIntegrated : Prop :=
  ∀ (s : State) (m : MapEntry) (i : StringNo) (received : Int) (volts : Nat), m.string = some i →
    let r := s.str i
    let t := s.stringReported m received volts
    let current := max (-400000) (min 400000 received)
    let dt := match r.lastArrival with
      | none => 0
      | some a => min (s.second - a) s.site.sampleTimeout
    let added (x : Nat) := if 0 < current then min (x + current.toNat * dt) (2 ^ 40 - 1) else x
    (r.cfg.cellCount = 0 ∨ r.cfg.sensor ≠ m.addr → t = s) ∧
    (r.cfg.cellCount ≠ 0 → r.cfg.sensor = m.addr →
      (t.str i).q = added r.q ∧
      (t.str i).jobCharge = (if r.state = .equalising ∨ r.state = .held then added r.jobCharge else r.jobCharge) ∧
      (t.str i).lastArrival = some s.second ∧ (t.str i).lastCurrent = current ∧ (t.str i).lastVoltage = volts ∧
      (t.str i).presence = .present ∧ (t.str i).state = r.state ∧ (∀ j, j ≠ i → t.str j = s.str j) ∧
      (r.presence = .present → t.mgmt = s.mgmt ∧ t.fp = s.fp) ∧
      (r.presence ≠ .present → ∃ x, t.mgmt.results.getLast? = some x ∧ x.string = i ∧ x.part = .presence .present) ∧
      (∀ b, Working s b i .equalising → (t.bay b).sample = .running s.site.sampleTimeout ∧
        ((s.bay b).count < 65535 → (t.bay b).count = (s.bay b).count + 1 ∧ (t.bay b).sum = (s.bay b).sum + current)) ∧
      (∀ b, Working s b i .held → t.bay b = { s.bay b with sample := .running s.site.sampleTimeout }) ∧
      (r.bay = none → t.bays = s.bays))

/-! ## Requests, grants, holds and figures -/

/-- R73 to R79, R87, R130: an evaluation is two picks of the bay pass, the second of which can grant only while two bays are
in use, and then the manifold pass; one that finds no eligible entry changes nothing. An EQUALISE entry is eligible exactly
under the nine conditions of R73, a WATERING entry under the five of R74, with the Fill List that R130 builds. The entry
picked is eligible, and none is before it by level, arrival and string number. An equalise grant takes it from the list, makes
the FREE bay BUSY with the limit R54 gives, which the remainder covers, and the string its bay's, with job charge 0, the
present start minute and both holds, and the rest of the evaluation leaves that so. A watering grant takes it from the list,
puts the string in WATERING, starts the round with its Fill List and a hold on every VALVE address that was free, and takes
the next-fill step. An evaluation lists nothing and leaves every string that has no entry as it is. -/
def Obligations.EvaluationGrants : Prop :=
  (∀ l : List Entry,
    (pick l = none ↔ l = []) ∧
    ∀ e, pick l = some e → e ∈ l ∧ ∀ x ∈ l,
      x.level < e.level ∨ (x.level = e.level ∧ e.arrival < x.arrival) ∨
        (x.level = e.level ∧ x.arrival = e.arrival ∧ e.string ≤ x.string)) ∧
  ∀ s : State,
    let buildsFull (src : SourceSet) := src.management = true ∨ src.debt = true
    s.evaluate = s.bayPick.bayPick.manifoldPick ∧ s.bayPick.bayPick.bayPick = s.bayPick.bayPick ∧
    (s.site.bays ≠ 2 ∨ (s.bay 0).state ≠ .free → s.bayPick.bayPick = s.bayPick) ∧
    ((∀ e ∈ s.requests, s.equaliseGrant e = none ∧ s.wateringEligible e = false) → s.evaluate = s) ∧
    (∀ x ∈ s.evaluate.requests, x ∈ s.requests) ∧
    (∀ i, (∀ x ∈ s.requests, x.string ≠ i) → s.evaluate.str i = s.str i) ∧
    (∀ e b lim red, s.equaliseGrant e = some (b, lim, red) ↔
      e.kind = .equalise ∧ s.ceiling < e.level ∧ (s.str e.string).state = .float ∧
      (s.str e.string).presence = .present ∧
      (∀ p : Position, p.val < (s.str e.string).cfg.cellCount → (s.cell e.string p).ot.state = false) ∧
      ((s.str e.string).retryHold = none ∨ e.sources.management = true) ∧ s.gas.state = .normal ∧ s.site.charger ≠ 0 ∧
      (s.bay b).state = .free ∧ (b = 0 ∨ (s.site.bays = 2 ∧ (s.bay 0).state ≠ .free)) ∧
      grantLimit (requestedLimit (s.str e.string).cfg.capacity (s.profile e.string).rate)
        (s.site.budget * 100 - s.busySum) = some (lim, red)) ∧
    (∀ e, s.wateringEligible e = true ↔
      e.kind = .watering ∧ s.ceiling < e.level ∧ (s.str e.string).state = .float ∧ s.water.round.state = .idle ∧
      ∃ p rest, s.fillListFor e.string (buildOf e.sources) = p :: rest ∧
        (((s.cell e.string p).override.volume.getD s.site.fillVolume : Nat) : Int) ≤
          (s.water.tank : Int) - s.water.reserve) ∧
    (∀ i build, (s.fillListFor i build).Pairwise (· < ·) ∧ ∀ p, p ∈ s.fillListFor i build ↔
      p.val < (s.str i).cfg.cellCount ∧ (s.cell i p).binding ≠ none ∧ (s.cell i p).valveFault = false ∧
      (build = .full → (s.cell i p).level ≠ .fault) ∧ (build = .level → (s.cell i p).level = .low)) ∧
    (∀ src, (buildsFull src → buildOf src = .full) ∧ (¬buildsFull src → buildOf src = .level)) ∧
    (∀ e, pick (s.requests.filter fun x => (s.equaliseGrant x).isSome) = some e →
      ∃ b lim red, s.equaliseGrant e = some (b, lim, red) ∧ lim ≤ s.site.budget * 100 - s.busySum ∧
        s.bayPick.requests = (s.requests.filter fun x => !(x.string = e.string && x.kind = .equalise)) ∧
        (∀ x ∈ s.evaluate.requests, ¬(x.string = e.string ∧ x.kind = .equalise)) ∧
        ∀ t ∈ [s.bayPick, s.evaluate],
          (t.bay b).state = .busy ∧ (t.bay b).string = some e.string ∧ (t.bay b).limit = lim ∧ (t.bay b).reduced = red ∧
          (t.str e.string).bay = some b ∧ (t.str e.string).jobCharge = 0 ∧ (t.str e.string).startMinute = s.minute ∧
          (t.str e.string).state ∈ [StringState.baseline, .transferOut] ∧
          (t.holderOf (s.str e.string).cfg.switch).isSome = true ∧ (t.holderOf s.site.charger).isSome = true) ∧
    (pick (s.requests.filter fun x => (s.equaliseGrant x).isSome) = none → s.bayPick = s) ∧
    (pick (s.requests.filter s.wateringEligible) = none → s.manifoldPick = s) ∧
    (∀ e, pick (s.requests.filter s.wateringEligible) = some e →
      let i := e.string
      ∃ v : State, s.manifoldPick = v.nextFill ∧
        v.water = { s.water with round := { state := .filling, string := some i, build := some (buildOf e.sources)
                                            startMinute := s.minute, fillList := s.fillListFor i (buildOf e.sources) } } ∧
        v.str i = { s.str i with state := .watering } ∧ (∀ j, j ≠ i → v.str j = s.str j) ∧ v.bays = s.bays ∧
        v.requests = (s.requests.filter fun x => !(x.string = i && x.kind = .watering)) ∧
        (∀ a, v.holderOf a = if s.holderOf a = none ∧ ∃ m ∈ s.sourceMap, m.addr = a ∧ m.role = .valve then some .manifold
          else s.holderOf a) ∧
        (s.manifoldPick.str i).state = .watering ∧ s.manifoldPick.water.round.state = .filling)

/-- R8, R150 to R153: a take of an address not held adds the hold and removes from the chain-forward queue exactly the command
frames to that address, the rest in order; with room for every REJECT each removed frame gives one, in order. A take of a
held address changes nothing. A release removes the hold with that address and holder, and every other hold stays. An equalise
grant takes its two addresses in ascending order, which is DEDUCED (notes/assumptions/30.md). -/
def Obligations.HoldsTakenAndReleased : Prop :=
  ∀ (s : State) (a : Byte) (h : Holder),
    let toPurge (f : Frame) : Bool := f.dst = a && 0x20 ≤ f.kind.toNat && f.kind.toNat ≤ 0x2F
    (s.holderOf a ≠ none → s.takeHold a h = s) ∧
    (s.holderOf a = none →
      (s.takeHold a h).holderOf a = some h ∧
      (∀ a', a' ≠ a → (s.takeHold a h).holderOf a' = s.holderOf a') ∧
      (s.takeHold a h).fp.chain = { s.fp.chain with forwardQ := s.fp.chain.forwardQ.filter (!toPurge ·) } ∧
      (s.fp.chain.forwardQ.filter toPurge = [] → (s.takeHold a h).fp.trunk = s.fp.trunk ∧
        (s.takeHold a h).fp.upDrops = s.fp.upDrops) ∧
      (∀ g, s.fp.trunk.sending = some g → s.mgmt.mu = .idle →
        s.fp.trunk.localQ.length + (s.fp.chain.forwardQ.filter toPurge).length ≤ 8 →
        (s.takeHold a h).fp.trunk = { s.fp.trunk with
          localQ := s.fp.trunk.localQ ++ (s.fp.chain.forwardQ.filter toPurge).map fun f =>
            mkFrame f.src s.own 0x32 [f.dst, f.kind, holderByte h] } ∧
        (s.takeHold a h).fp.upDrops = s.fp.upDrops) ∧
      (s.takeHold a h).strings = s.strings ∧ (s.takeHold a h).bays = s.bays) ∧
    (∀ x, x ∈ (s.releaseHold a h).holds ↔ x ∈ s.holds ∧ x ≠ ⟨a, h⟩) ∧
    (s.releaseHold a h).fp = s.fp ∧
    (∀ (i : StringNo) (b : BayNo) (limit : Nat) (reduced : Bool),
      let switch : Hold := ⟨(s.str i).cfg.switch, .switch i⟩
      let charger : Hold := ⟨s.site.charger, .charger⟩
      ∃ v w : State, s.grantEqualise i b limit reduced = (w.baselineSweep i).noteBayEntry ∧ v.fp = s.fp ∧ v.holds = s.holds ∧
        (switch.addr.toNat ≤ charger.addr.toNat →
          w = (v.takeHold switch.addr switch.holder).takeHold charger.addr charger.holder) ∧
        (charger.addr.toNat < switch.addr.toNat →
          w = (v.takeHold charger.addr charger.holder).takeHold switch.addr switch.holder))

/-- R53, R54: the requested limit is capacity times rate, clamped to 1,000 to 400,000 mA and rounded down to a multiple of 100
mA; it is granted whole when the remainder covers it, the remainder rounded down and marked reduced when it is at least
half of it and at least 1,000 mA, and not at all otherwise. -/
def Obligations.CurrentLimitGranted : Prop :=
  (∀ capacity rate : Nat,
    let a := requestedLimit capacity rate
    a % 100 = 0 ∧ 1000 ≤ a ∧ a ≤ 400000 ∧ (capacity * rate ≤ 1000 → a = 1000) ∧ (400000 ≤ capacity * rate → a = 400000) ∧
    (1000 ≤ capacity * rate → capacity * rate ≤ 400000 → a ≤ capacity * rate ∧ capacity * rate < a + 100)) ∧
  (∀ (s : State) (i : StringNo),
    let a := requestedLimit (s.str i).cfg.capacity (s.profile i).rate
    let sum := (if (s.bay 0).state = .busy then (s.bay 0).limit else 0) +
      (if (s.bay 1).state = .busy then (s.bay 1).limit else 0)
    let r := s.site.budget * 100 - sum
    (a ≤ r → s.currentFor i = some (a, false)) ∧
    (r < a → a ≤ 2 * r → 1000 ≤ r → s.currentFor i = some (r / 100 * 100, true)) ∧
    (r < a → 2 * r < a ∨ r < 1000 → s.currentFor i = none))

/-- R47, R48, R50, R51, R56, R59, R60: half up is the nearest integer with an exact half going up; the cell voltage lies in
the profile's clamp and a command value times 10 never passes clamp max times the cells; a window of fewer than 3 reports
is void and any other mean lies within one of its exact quotient, toward zero; the debt is the largest whole number of µL
not above the exact figure; and a reduction takes the largest whole charge not above the exact one, down to 0. -/
def Obligations.FiguresRoundAsStated : Prop :=
  (∀ a b : Int, 0 < b →
    2 * a - b < 2 * b * roundHalfUp a b ∧ 2 * b * roundHalfUp a b ≤ 2 * a + b) ∧
  (∀ (p : Profile) (mean : Int) (cells : Nat), p.clampMin ≤ p.clampMax →
    (p.clampMin : Int) ≤ cellVoltage p mean ∧ cellVoltage p mean ≤ p.clampMax ∧
    setpointCmd p mean cells * 10 ≤ p.clampMax * cells ∧
    (cellVoltage p mean).toNat * cells < setpointCmd p mean cells * 10 + 10 ∧
    (let x : Int := 2000 * p.vEq + p.k * (50 - mean)
     p.clampMin < cellVoltage p mean → cellVoltage p mean < p.clampMax →
      x - 1000 < 2000 * cellVoltage p mean ∧ 2000 * cellVoltage p mean ≤ x + 1000)) ∧
  (∀ (count : Nat) (sum : Int),
    (count < 3 → windowMean count sum = none) ∧
    (3 ≤ count → ∃ m, windowMean count sum = some m ∧ m.natAbs * count ≤ sum.natAbs ∧ sum.natAbs < (m.natAbs + 1) * count ∧
      (0 < m → 0 < sum) ∧ (m < 0 → sum < 0))) ∧
  (∀ q g : Nat, debt q g * 3600000 ≤ q * g ∧ q * g < (debt q g + 1) * 3600000) ∧
  (∀ q d n g : Nat, (g = 0 → reduceQ q d n g = q) ∧
    (0 < n → 0 < g → ∃ taken, taken * (n * g) ≤ d * 1000 * 3600000 ∧ d * 1000 * 3600000 < (taken + 1) * (n * g) ∧
      reduceQ q d n g = q - taken))

/-! ## The laws of the part, kept by every step -/

/-- R10, R14, R31, R62, R150, R162: no step takes a queue past its capacity, lists a second entry for a pair, holds an address
twice, or takes an agree count past 2. -/
def Obligations.StepKeepsQueuesAndLists : Prop :=
  ∀ s t : State, WithinCapacity s → OneEntryPerPair s → OneHoldPerAddress s → AgreeCountsInRange s → step s = .next t →
    WithinCapacity t ∧ OneEntryPerPair t ∧ OneHoldPerAddress t ∧ AgreeCountsInRange t

/-- R55: the current limits of the BUSY bays never exceed the charger budget. -/
def Obligations.StepKeepsBudget : Prop :=
  ∀ s t : State, WithinBudget s → step s = .next t → WithinBudget t

/-- R75, R122: no step leaves STAT at odds with the gas state and the isolated count, or an evaluation unmade. -/
def Obligations.StepKeepsStatAndEvaluations : Prop :=
  ∀ s t : State, StatDriven s → NoEvaluationDue s → step s = .next t → StatDriven t ∧ NoEvaluationDue t

/-- R82 to R84, R130: no step parts a bay from its string, gives a string two bays or a bay two strings, or leaves a string in
a state its bay or the round does not match. -/
def Obligations.StepKeepsBaysLinked : Prop :=
  ∀ s t : State, BaysLinked s → step s = .next t → BaysLinked t
end

