-- ==== Sys2Proof/Laws/State.lean ====
section
/-! SUPPORT. The field lemmas of the state's updates: what an update writes, and every field it leaves. -/

namespace Sys2Proof.Machine

open Sys2Proof

/-! ### `State.setStr` -/

@[simp] theorem State.setStr_node (s : State) (i : StringNo) (r : StringRec) : (s.setStr i r).node = s.node := rfl
@[simp] theorem State.setStr_baud (s : State) (i : StringNo) (r : StringRec) : (s.setStr i r).baud = s.baud := rfl
@[simp] theorem State.setStr_clock (s : State) (i : StringNo) (r : StringRec) : (s.setStr i r).clock = s.clock := rfl
@[simp] theorem State.setStr_silenceTimeout (s : State) (i : StringNo) (r : StringRec) : (s.setStr i r).silenceTimeout = s.silenceTimeout := rfl
@[simp] theorem State.setStr_fp (s : State) (i : StringNo) (r : StringRec) : (s.setStr i r).fp = s.fp := rfl
@[simp] theorem State.setStr_site (s : State) (i : StringNo) (r : StringRec) : (s.setStr i r).site = s.site := rfl
@[simp] theorem State.setStr_sourceMap (s : State) (i : StringNo) (r : StringRec) : (s.setStr i r).sourceMap = s.sourceMap := rfl
@[simp] theorem State.setStr_profiles (s : State) (i : StringNo) (r : StringRec) : (s.setStr i r).profiles = s.profiles := rfl
@[simp] theorem State.setStr_requests (s : State) (i : StringNo) (r : StringRec) : (s.setStr i r).requests = s.requests := rfl
@[simp] theorem State.setStr_ceiling (s : State) (i : StringNo) (r : StringRec) : (s.setStr i r).ceiling = s.ceiling := rfl
@[simp] theorem State.setStr_bays (s : State) (i : StringNo) (r : StringRec) : (s.setStr i r).bays = s.bays := rfl
@[simp] theorem State.setStr_water (s : State) (i : StringNo) (r : StringRec) : (s.setStr i r).water = s.water := rfl
@[simp] theorem State.setStr_gas (s : State) (i : StringNo) (r : StringRec) : (s.setStr i r).gas = s.gas := rfl
@[simp] theorem State.setStr_holds (s : State) (i : StringNo) (r : StringRec) : (s.setStr i r).holds = s.holds := rfl
@[simp] theorem State.setStr_mgmt (s : State) (i : StringNo) (r : StringRec) : (s.setStr i r).mgmt = s.mgmt := rfl
@[simp] theorem State.setStr_evalDue (s : State) (i : StringNo) (r : StringRec) : (s.setStr i r).evalDue = s.evalDue := rfl
@[simp] theorem State.setStr_pending (s : State) (i : StringNo) (r : StringRec) : (s.setStr i r).pending = s.pending := rfl

/-! ### `State.modStr` -/

@[simp] theorem State.modStr_node (s : State) (i : StringNo) (f : StringRec → StringRec) : (s.modStr i f).node = s.node := rfl
@[simp] theorem State.modStr_baud (s : State) (i : StringNo) (f : StringRec → StringRec) : (s.modStr i f).baud = s.baud := rfl
@[simp] theorem State.modStr_clock (s : State) (i : StringNo) (f : StringRec → StringRec) : (s.modStr i f).clock = s.clock := rfl
@[simp] theorem State.modStr_silenceTimeout (s : State) (i : StringNo) (f : StringRec → StringRec) : (s.modStr i f).silenceTimeout = s.silenceTimeout := rfl
@[simp] theorem State.modStr_fp (s : State) (i : StringNo) (f : StringRec → StringRec) : (s.modStr i f).fp = s.fp := rfl
@[simp] theorem State.modStr_site (s : State) (i : StringNo) (f : StringRec → StringRec) : (s.modStr i f).site = s.site := rfl
@[simp] theorem State.modStr_sourceMap (s : State) (i : StringNo) (f : StringRec → StringRec) : (s.modStr i f).sourceMap = s.sourceMap := rfl
@[simp] theorem State.modStr_profiles (s : State) (i : StringNo) (f : StringRec → StringRec) : (s.modStr i f).profiles = s.profiles := rfl
@[simp] theorem State.modStr_requests (s : State) (i : StringNo) (f : StringRec → StringRec) : (s.modStr i f).requests = s.requests := rfl
@[simp] theorem State.modStr_ceiling (s : State) (i : StringNo) (f : StringRec → StringRec) : (s.modStr i f).ceiling = s.ceiling := rfl
@[simp] theorem State.modStr_bays (s : State) (i : StringNo) (f : StringRec → StringRec) : (s.modStr i f).bays = s.bays := rfl
@[simp] theorem State.modStr_water (s : State) (i : StringNo) (f : StringRec → StringRec) : (s.modStr i f).water = s.water := rfl
@[simp] theorem State.modStr_gas (s : State) (i : StringNo) (f : StringRec → StringRec) : (s.modStr i f).gas = s.gas := rfl
@[simp] theorem State.modStr_holds (s : State) (i : StringNo) (f : StringRec → StringRec) : (s.modStr i f).holds = s.holds := rfl
@[simp] theorem State.modStr_mgmt (s : State) (i : StringNo) (f : StringRec → StringRec) : (s.modStr i f).mgmt = s.mgmt := rfl
@[simp] theorem State.modStr_evalDue (s : State) (i : StringNo) (f : StringRec → StringRec) : (s.modStr i f).evalDue = s.evalDue := rfl
@[simp] theorem State.modStr_pending (s : State) (i : StringNo) (f : StringRec → StringRec) : (s.modStr i f).pending = s.pending := rfl

/-! ### `State.mapStrings` -/

@[simp] theorem State.mapStrings_node (s : State) (f : StringNo → StringRec → StringRec) : (s.mapStrings f).node = s.node := rfl
@[simp] theorem State.mapStrings_baud (s : State) (f : StringNo → StringRec → StringRec) : (s.mapStrings f).baud = s.baud := rfl
@[simp] theorem State.mapStrings_clock (s : State) (f : StringNo → StringRec → StringRec) : (s.mapStrings f).clock = s.clock := rfl
@[simp] theorem State.mapStrings_silenceTimeout (s : State) (f : StringNo → StringRec → StringRec) : (s.mapStrings f).silenceTimeout = s.silenceTimeout := rfl
@[simp] theorem State.mapStrings_fp (s : State) (f : StringNo → StringRec → StringRec) : (s.mapStrings f).fp = s.fp := rfl
@[simp] theorem State.mapStrings_site (s : State) (f : StringNo → StringRec → StringRec) : (s.mapStrings f).site = s.site := rfl
@[simp] theorem State.mapStrings_sourceMap (s : State) (f : StringNo → StringRec → StringRec) : (s.mapStrings f).sourceMap = s.sourceMap := rfl
@[simp] theorem State.mapStrings_profiles (s : State) (f : StringNo → StringRec → StringRec) : (s.mapStrings f).profiles = s.profiles := rfl
@[simp] theorem State.mapStrings_requests (s : State) (f : StringNo → StringRec → StringRec) : (s.mapStrings f).requests = s.requests := rfl
@[simp] theorem State.mapStrings_ceiling (s : State) (f : StringNo → StringRec → StringRec) : (s.mapStrings f).ceiling = s.ceiling := rfl
@[simp] theorem State.mapStrings_bays (s : State) (f : StringNo → StringRec → StringRec) : (s.mapStrings f).bays = s.bays := rfl
@[simp] theorem State.mapStrings_water (s : State) (f : StringNo → StringRec → StringRec) : (s.mapStrings f).water = s.water := rfl
@[simp] theorem State.mapStrings_gas (s : State) (f : StringNo → StringRec → StringRec) : (s.mapStrings f).gas = s.gas := rfl
@[simp] theorem State.mapStrings_holds (s : State) (f : StringNo → StringRec → StringRec) : (s.mapStrings f).holds = s.holds := rfl
@[simp] theorem State.mapStrings_mgmt (s : State) (f : StringNo → StringRec → StringRec) : (s.mapStrings f).mgmt = s.mgmt := rfl
@[simp] theorem State.mapStrings_evalDue (s : State) (f : StringNo → StringRec → StringRec) : (s.mapStrings f).evalDue = s.evalDue := rfl
@[simp] theorem State.mapStrings_pending (s : State) (f : StringNo → StringRec → StringRec) : (s.mapStrings f).pending = s.pending := rfl

/-! ### `State.setBay` -/

@[simp] theorem State.setBay_node (s : State) (b : BayNo) (r : Bay) : (s.setBay b r).node = s.node := rfl
@[simp] theorem State.setBay_baud (s : State) (b : BayNo) (r : Bay) : (s.setBay b r).baud = s.baud := rfl
@[simp] theorem State.setBay_clock (s : State) (b : BayNo) (r : Bay) : (s.setBay b r).clock = s.clock := rfl
@[simp] theorem State.setBay_silenceTimeout (s : State) (b : BayNo) (r : Bay) : (s.setBay b r).silenceTimeout = s.silenceTimeout := rfl
@[simp] theorem State.setBay_fp (s : State) (b : BayNo) (r : Bay) : (s.setBay b r).fp = s.fp := rfl
@[simp] theorem State.setBay_site (s : State) (b : BayNo) (r : Bay) : (s.setBay b r).site = s.site := rfl
@[simp] theorem State.setBay_sourceMap (s : State) (b : BayNo) (r : Bay) : (s.setBay b r).sourceMap = s.sourceMap := rfl
@[simp] theorem State.setBay_profiles (s : State) (b : BayNo) (r : Bay) : (s.setBay b r).profiles = s.profiles := rfl
@[simp] theorem State.setBay_strings (s : State) (b : BayNo) (r : Bay) : (s.setBay b r).strings = s.strings := rfl
@[simp] theorem State.setBay_requests (s : State) (b : BayNo) (r : Bay) : (s.setBay b r).requests = s.requests := rfl
@[simp] theorem State.setBay_ceiling (s : State) (b : BayNo) (r : Bay) : (s.setBay b r).ceiling = s.ceiling := rfl
@[simp] theorem State.setBay_water (s : State) (b : BayNo) (r : Bay) : (s.setBay b r).water = s.water := rfl
@[simp] theorem State.setBay_gas (s : State) (b : BayNo) (r : Bay) : (s.setBay b r).gas = s.gas := rfl
@[simp] theorem State.setBay_holds (s : State) (b : BayNo) (r : Bay) : (s.setBay b r).holds = s.holds := rfl
@[simp] theorem State.setBay_mgmt (s : State) (b : BayNo) (r : Bay) : (s.setBay b r).mgmt = s.mgmt := rfl
@[simp] theorem State.setBay_evalDue (s : State) (b : BayNo) (r : Bay) : (s.setBay b r).evalDue = s.evalDue := rfl
@[simp] theorem State.setBay_pending (s : State) (b : BayNo) (r : Bay) : (s.setBay b r).pending = s.pending := rfl

/-! ### `State.modBay` -/

@[simp] theorem State.modBay_node (s : State) (b : BayNo) (f : Bay → Bay) : (s.modBay b f).node = s.node := rfl
@[simp] theorem State.modBay_baud (s : State) (b : BayNo) (f : Bay → Bay) : (s.modBay b f).baud = s.baud := rfl
@[simp] theorem State.modBay_clock (s : State) (b : BayNo) (f : Bay → Bay) : (s.modBay b f).clock = s.clock := rfl
@[simp] theorem State.modBay_silenceTimeout (s : State) (b : BayNo) (f : Bay → Bay) : (s.modBay b f).silenceTimeout = s.silenceTimeout := rfl
@[simp] theorem State.modBay_fp (s : State) (b : BayNo) (f : Bay → Bay) : (s.modBay b f).fp = s.fp := rfl
@[simp] theorem State.modBay_site (s : State) (b : BayNo) (f : Bay → Bay) : (s.modBay b f).site = s.site := rfl
@[simp] theorem State.modBay_sourceMap (s : State) (b : BayNo) (f : Bay → Bay) : (s.modBay b f).sourceMap = s.sourceMap := rfl
@[simp] theorem State.modBay_profiles (s : State) (b : BayNo) (f : Bay → Bay) : (s.modBay b f).profiles = s.profiles := rfl
@[simp] theorem State.modBay_strings (s : State) (b : BayNo) (f : Bay → Bay) : (s.modBay b f).strings = s.strings := rfl
@[simp] theorem State.modBay_requests (s : State) (b : BayNo) (f : Bay → Bay) : (s.modBay b f).requests = s.requests := rfl
@[simp] theorem State.modBay_ceiling (s : State) (b : BayNo) (f : Bay → Bay) : (s.modBay b f).ceiling = s.ceiling := rfl
@[simp] theorem State.modBay_water (s : State) (b : BayNo) (f : Bay → Bay) : (s.modBay b f).water = s.water := rfl
@[simp] theorem State.modBay_gas (s : State) (b : BayNo) (f : Bay → Bay) : (s.modBay b f).gas = s.gas := rfl
@[simp] theorem State.modBay_holds (s : State) (b : BayNo) (f : Bay → Bay) : (s.modBay b f).holds = s.holds := rfl
@[simp] theorem State.modBay_mgmt (s : State) (b : BayNo) (f : Bay → Bay) : (s.modBay b f).mgmt = s.mgmt := rfl
@[simp] theorem State.modBay_evalDue (s : State) (b : BayNo) (f : Bay → Bay) : (s.modBay b f).evalDue = s.evalDue := rfl
@[simp] theorem State.modBay_pending (s : State) (b : BayNo) (f : Bay → Bay) : (s.modBay b f).pending = s.pending := rfl

/-! ### `State.modPort` -/

@[simp] theorem State.modPort_node (s : State) (p : Port) (f : PortState → PortState) : (s.modPort p f).node = s.node := rfl
@[simp] theorem State.modPort_baud (s : State) (p : Port) (f : PortState → PortState) : (s.modPort p f).baud = s.baud := rfl
@[simp] theorem State.modPort_clock (s : State) (p : Port) (f : PortState → PortState) : (s.modPort p f).clock = s.clock := rfl
@[simp] theorem State.modPort_silenceTimeout (s : State) (p : Port) (f : PortState → PortState) : (s.modPort p f).silenceTimeout = s.silenceTimeout := rfl
@[simp] theorem State.modPort_site (s : State) (p : Port) (f : PortState → PortState) : (s.modPort p f).site = s.site := rfl
@[simp] theorem State.modPort_sourceMap (s : State) (p : Port) (f : PortState → PortState) : (s.modPort p f).sourceMap = s.sourceMap := rfl
@[simp] theorem State.modPort_profiles (s : State) (p : Port) (f : PortState → PortState) : (s.modPort p f).profiles = s.profiles := rfl
@[simp] theorem State.modPort_strings (s : State) (p : Port) (f : PortState → PortState) : (s.modPort p f).strings = s.strings := rfl
@[simp] theorem State.modPort_requests (s : State) (p : Port) (f : PortState → PortState) : (s.modPort p f).requests = s.requests := rfl
@[simp] theorem State.modPort_ceiling (s : State) (p : Port) (f : PortState → PortState) : (s.modPort p f).ceiling = s.ceiling := rfl
@[simp] theorem State.modPort_bays (s : State) (p : Port) (f : PortState → PortState) : (s.modPort p f).bays = s.bays := rfl
@[simp] theorem State.modPort_water (s : State) (p : Port) (f : PortState → PortState) : (s.modPort p f).water = s.water := rfl
@[simp] theorem State.modPort_gas (s : State) (p : Port) (f : PortState → PortState) : (s.modPort p f).gas = s.gas := rfl
@[simp] theorem State.modPort_holds (s : State) (p : Port) (f : PortState → PortState) : (s.modPort p f).holds = s.holds := rfl
@[simp] theorem State.modPort_mgmt (s : State) (p : Port) (f : PortState → PortState) : (s.modPort p f).mgmt = s.mgmt := rfl
@[simp] theorem State.modPort_evalDue (s : State) (p : Port) (f : PortState → PortState) : (s.modPort p f).evalDue = s.evalDue := rfl
@[simp] theorem State.modPort_pending (s : State) (p : Port) (f : PortState → PortState) : (s.modPort p f).pending = s.pending := rfl

/-! ### `State.modGas` -/

@[simp] theorem State.modGas_node (s : State) (f : Gas → Gas) : (s.modGas f).node = s.node := rfl
@[simp] theorem State.modGas_baud (s : State) (f : Gas → Gas) : (s.modGas f).baud = s.baud := rfl
@[simp] theorem State.modGas_clock (s : State) (f : Gas → Gas) : (s.modGas f).clock = s.clock := rfl
@[simp] theorem State.modGas_silenceTimeout (s : State) (f : Gas → Gas) : (s.modGas f).silenceTimeout = s.silenceTimeout := rfl
@[simp] theorem State.modGas_fp (s : State) (f : Gas → Gas) : (s.modGas f).fp = s.fp := rfl
@[simp] theorem State.modGas_site (s : State) (f : Gas → Gas) : (s.modGas f).site = s.site := rfl
@[simp] theorem State.modGas_sourceMap (s : State) (f : Gas → Gas) : (s.modGas f).sourceMap = s.sourceMap := rfl
@[simp] theorem State.modGas_profiles (s : State) (f : Gas → Gas) : (s.modGas f).profiles = s.profiles := rfl
@[simp] theorem State.modGas_strings (s : State) (f : Gas → Gas) : (s.modGas f).strings = s.strings := rfl
@[simp] theorem State.modGas_requests (s : State) (f : Gas → Gas) : (s.modGas f).requests = s.requests := rfl
@[simp] theorem State.modGas_ceiling (s : State) (f : Gas → Gas) : (s.modGas f).ceiling = s.ceiling := rfl
@[simp] theorem State.modGas_bays (s : State) (f : Gas → Gas) : (s.modGas f).bays = s.bays := rfl
@[simp] theorem State.modGas_water (s : State) (f : Gas → Gas) : (s.modGas f).water = s.water := rfl
@[simp] theorem State.modGas_holds (s : State) (f : Gas → Gas) : (s.modGas f).holds = s.holds := rfl
@[simp] theorem State.modGas_mgmt (s : State) (f : Gas → Gas) : (s.modGas f).mgmt = s.mgmt := rfl
@[simp] theorem State.modGas_evalDue (s : State) (f : Gas → Gas) : (s.modGas f).evalDue = s.evalDue := rfl
@[simp] theorem State.modGas_pending (s : State) (f : Gas → Gas) : (s.modGas f).pending = s.pending := rfl

/-! ### `State.modWater` -/

@[simp] theorem State.modWater_node (s : State) (f : Watering → Watering) : (s.modWater f).node = s.node := rfl
@[simp] theorem State.modWater_baud (s : State) (f : Watering → Watering) : (s.modWater f).baud = s.baud := rfl
@[simp] theorem State.modWater_clock (s : State) (f : Watering → Watering) : (s.modWater f).clock = s.clock := rfl
@[simp] theorem State.modWater_silenceTimeout (s : State) (f : Watering → Watering) : (s.modWater f).silenceTimeout = s.silenceTimeout := rfl
@[simp] theorem State.modWater_fp (s : State) (f : Watering → Watering) : (s.modWater f).fp = s.fp := rfl
@[simp] theorem State.modWater_site (s : State) (f : Watering → Watering) : (s.modWater f).site = s.site := rfl
@[simp] theorem State.modWater_sourceMap (s : State) (f : Watering → Watering) : (s.modWater f).sourceMap = s.sourceMap := rfl
@[simp] theorem State.modWater_profiles (s : State) (f : Watering → Watering) : (s.modWater f).profiles = s.profiles := rfl
@[simp] theorem State.modWater_strings (s : State) (f : Watering → Watering) : (s.modWater f).strings = s.strings := rfl
@[simp] theorem State.modWater_requests (s : State) (f : Watering → Watering) : (s.modWater f).requests = s.requests := rfl
@[simp] theorem State.modWater_ceiling (s : State) (f : Watering → Watering) : (s.modWater f).ceiling = s.ceiling := rfl
@[simp] theorem State.modWater_bays (s : State) (f : Watering → Watering) : (s.modWater f).bays = s.bays := rfl
@[simp] theorem State.modWater_gas (s : State) (f : Watering → Watering) : (s.modWater f).gas = s.gas := rfl
@[simp] theorem State.modWater_holds (s : State) (f : Watering → Watering) : (s.modWater f).holds = s.holds := rfl
@[simp] theorem State.modWater_mgmt (s : State) (f : Watering → Watering) : (s.modWater f).mgmt = s.mgmt := rfl
@[simp] theorem State.modWater_evalDue (s : State) (f : Watering → Watering) : (s.modWater f).evalDue = s.evalDue := rfl
@[simp] theorem State.modWater_pending (s : State) (f : Watering → Watering) : (s.modWater f).pending = s.pending := rfl

/-! ### `State.withdraw` -/

@[simp] theorem State.withdraw_node (s : State) (a : Activity) : (s.withdraw a).node = s.node := rfl
@[simp] theorem State.withdraw_baud (s : State) (a : Activity) : (s.withdraw a).baud = s.baud := rfl
@[simp] theorem State.withdraw_clock (s : State) (a : Activity) : (s.withdraw a).clock = s.clock := rfl
@[simp] theorem State.withdraw_silenceTimeout (s : State) (a : Activity) : (s.withdraw a).silenceTimeout = s.silenceTimeout := rfl
@[simp] theorem State.withdraw_site (s : State) (a : Activity) : (s.withdraw a).site = s.site := rfl
@[simp] theorem State.withdraw_sourceMap (s : State) (a : Activity) : (s.withdraw a).sourceMap = s.sourceMap := rfl
@[simp] theorem State.withdraw_profiles (s : State) (a : Activity) : (s.withdraw a).profiles = s.profiles := rfl
@[simp] theorem State.withdraw_strings (s : State) (a : Activity) : (s.withdraw a).strings = s.strings := rfl
@[simp] theorem State.withdraw_requests (s : State) (a : Activity) : (s.withdraw a).requests = s.requests := rfl
@[simp] theorem State.withdraw_ceiling (s : State) (a : Activity) : (s.withdraw a).ceiling = s.ceiling := rfl
@[simp] theorem State.withdraw_bays (s : State) (a : Activity) : (s.withdraw a).bays = s.bays := rfl
@[simp] theorem State.withdraw_water (s : State) (a : Activity) : (s.withdraw a).water = s.water := rfl
@[simp] theorem State.withdraw_gas (s : State) (a : Activity) : (s.withdraw a).gas = s.gas := rfl
@[simp] theorem State.withdraw_holds (s : State) (a : Activity) : (s.withdraw a).holds = s.holds := rfl
@[simp] theorem State.withdraw_mgmt (s : State) (a : Activity) : (s.withdraw a).mgmt = s.mgmt := rfl
@[simp] theorem State.withdraw_evalDue (s : State) (a : Activity) : (s.withdraw a).evalDue = s.evalDue := rfl
@[simp] theorem State.withdraw_pending (s : State) (a : Activity) : (s.withdraw a).pending = s.pending := rfl

/-! ### `State.waitOffer` -/

@[simp] theorem State.waitOffer_node (s : State) (a : Activity) (c : ChainCmd) : (s.waitOffer a c).node = s.node := rfl
@[simp] theorem State.waitOffer_baud (s : State) (a : Activity) (c : ChainCmd) : (s.waitOffer a c).baud = s.baud := rfl
@[simp] theorem State.waitOffer_clock (s : State) (a : Activity) (c : ChainCmd) : (s.waitOffer a c).clock = s.clock := rfl
@[simp] theorem State.waitOffer_silenceTimeout (s : State) (a : Activity) (c : ChainCmd) : (s.waitOffer a c).silenceTimeout = s.silenceTimeout := rfl
@[simp] theorem State.waitOffer_site (s : State) (a : Activity) (c : ChainCmd) : (s.waitOffer a c).site = s.site := rfl
@[simp] theorem State.waitOffer_sourceMap (s : State) (a : Activity) (c : ChainCmd) : (s.waitOffer a c).sourceMap = s.sourceMap := rfl
@[simp] theorem State.waitOffer_profiles (s : State) (a : Activity) (c : ChainCmd) : (s.waitOffer a c).profiles = s.profiles := rfl
@[simp] theorem State.waitOffer_strings (s : State) (a : Activity) (c : ChainCmd) : (s.waitOffer a c).strings = s.strings := rfl
@[simp] theorem State.waitOffer_requests (s : State) (a : Activity) (c : ChainCmd) : (s.waitOffer a c).requests = s.requests := rfl
@[simp] theorem State.waitOffer_ceiling (s : State) (a : Activity) (c : ChainCmd) : (s.waitOffer a c).ceiling = s.ceiling := rfl
@[simp] theorem State.waitOffer_bays (s : State) (a : Activity) (c : ChainCmd) : (s.waitOffer a c).bays = s.bays := rfl
@[simp] theorem State.waitOffer_water (s : State) (a : Activity) (c : ChainCmd) : (s.waitOffer a c).water = s.water := rfl
@[simp] theorem State.waitOffer_gas (s : State) (a : Activity) (c : ChainCmd) : (s.waitOffer a c).gas = s.gas := rfl
@[simp] theorem State.waitOffer_holds (s : State) (a : Activity) (c : ChainCmd) : (s.waitOffer a c).holds = s.holds := rfl
@[simp] theorem State.waitOffer_mgmt (s : State) (a : Activity) (c : ChainCmd) : (s.waitOffer a c).mgmt = s.mgmt := rfl
@[simp] theorem State.waitOffer_evalDue (s : State) (a : Activity) (c : ChainCmd) : (s.waitOffer a c).evalDue = s.evalDue := rfl
@[simp] theorem State.waitOffer_pending (s : State) (a : Activity) (c : ChainCmd) : (s.waitOffer a c).pending = s.pending := rfl

/-! ### `State.releaseHold` -/

@[simp] theorem State.releaseHold_node (s : State) (a : Byte) (h : Holder) : (s.releaseHold a h).node = s.node := rfl
@[simp] theorem State.releaseHold_baud (s : State) (a : Byte) (h : Holder) : (s.releaseHold a h).baud = s.baud := rfl
@[simp] theorem State.releaseHold_clock (s : State) (a : Byte) (h : Holder) : (s.releaseHold a h).clock = s.clock := rfl
@[simp] theorem State.releaseHold_silenceTimeout (s : State) (a : Byte) (h : Holder) : (s.releaseHold a h).silenceTimeout = s.silenceTimeout := rfl
@[simp] theorem State.releaseHold_fp (s : State) (a : Byte) (h : Holder) : (s.releaseHold a h).fp = s.fp := rfl
@[simp] theorem State.releaseHold_site (s : State) (a : Byte) (h : Holder) : (s.releaseHold a h).site = s.site := rfl
@[simp] theorem State.releaseHold_sourceMap (s : State) (a : Byte) (h : Holder) : (s.releaseHold a h).sourceMap = s.sourceMap := rfl
@[simp] theorem State.releaseHold_profiles (s : State) (a : Byte) (h : Holder) : (s.releaseHold a h).profiles = s.profiles := rfl
@[simp] theorem State.releaseHold_strings (s : State) (a : Byte) (h : Holder) : (s.releaseHold a h).strings = s.strings := rfl
@[simp] theorem State.releaseHold_requests (s : State) (a : Byte) (h : Holder) : (s.releaseHold a h).requests = s.requests := rfl
@[simp] theorem State.releaseHold_ceiling (s : State) (a : Byte) (h : Holder) : (s.releaseHold a h).ceiling = s.ceiling := rfl
@[simp] theorem State.releaseHold_bays (s : State) (a : Byte) (h : Holder) : (s.releaseHold a h).bays = s.bays := rfl
@[simp] theorem State.releaseHold_water (s : State) (a : Byte) (h : Holder) : (s.releaseHold a h).water = s.water := rfl
@[simp] theorem State.releaseHold_gas (s : State) (a : Byte) (h : Holder) : (s.releaseHold a h).gas = s.gas := rfl
@[simp] theorem State.releaseHold_mgmt (s : State) (a : Byte) (h : Holder) : (s.releaseHold a h).mgmt = s.mgmt := rfl
@[simp] theorem State.releaseHold_evalDue (s : State) (a : Byte) (h : Holder) : (s.releaseHold a h).evalDue = s.evalDue := rfl
@[simp] theorem State.releaseHold_pending (s : State) (a : Byte) (h : Holder) : (s.releaseHold a h).pending = s.pending := rfl

/-! ### `State.trigger` -/

@[simp] theorem State.trigger_node (s : State) : (s.trigger).node = s.node := rfl
@[simp] theorem State.trigger_baud (s : State) : (s.trigger).baud = s.baud := rfl
@[simp] theorem State.trigger_clock (s : State) : (s.trigger).clock = s.clock := rfl
@[simp] theorem State.trigger_silenceTimeout (s : State) : (s.trigger).silenceTimeout = s.silenceTimeout := rfl
@[simp] theorem State.trigger_fp (s : State) : (s.trigger).fp = s.fp := rfl
@[simp] theorem State.trigger_site (s : State) : (s.trigger).site = s.site := rfl
@[simp] theorem State.trigger_sourceMap (s : State) : (s.trigger).sourceMap = s.sourceMap := rfl
@[simp] theorem State.trigger_profiles (s : State) : (s.trigger).profiles = s.profiles := rfl
@[simp] theorem State.trigger_strings (s : State) : (s.trigger).strings = s.strings := rfl
@[simp] theorem State.trigger_requests (s : State) : (s.trigger).requests = s.requests := rfl
@[simp] theorem State.trigger_ceiling (s : State) : (s.trigger).ceiling = s.ceiling := rfl
@[simp] theorem State.trigger_bays (s : State) : (s.trigger).bays = s.bays := rfl
@[simp] theorem State.trigger_water (s : State) : (s.trigger).water = s.water := rfl
@[simp] theorem State.trigger_gas (s : State) : (s.trigger).gas = s.gas := rfl
@[simp] theorem State.trigger_holds (s : State) : (s.trigger).holds = s.holds := rfl
@[simp] theorem State.trigger_mgmt (s : State) : (s.trigger).mgmt = s.mgmt := rfl
@[simp] theorem State.trigger_pending (s : State) : (s.trigger).pending = s.pending := rfl

/-! ### What the updates write -/

@[simp] theorem State.trigger_evalDue (s : State) : s.trigger.evalDue = true := rfl
@[simp] theorem State.modGas_gas (s : State) (f : Gas → Gas) : (s.modGas f).gas = f s.gas := rfl
@[simp] theorem State.modWater_water (s : State) (f : Watering → Watering) : (s.modWater f).water = f s.water := rfl
@[simp] theorem State.modRound_round (s : State) (f : Round → Round) : (s.modRound f).water.round = f s.water.round := rfl
@[simp] theorem State.releaseHold_holds (s : State) (a : Byte) (h : Holder) :
    (s.releaseHold a h).holds = s.holds.filter (· ≠ ⟨a, h⟩) := rfl
@[simp] theorem State.withdraw_offers (s : State) (a : Activity) :
    (s.withdraw a).fp.offers = s.fp.offers.filter (·.activity ≠ a) := rfl
@[simp] theorem State.waitOffer_offers (s : State) (a : Activity) (c : ChainCmd) :
    (s.waitOffer a c).fp.offers = s.fp.offers ++ [⟨a, c⟩] := rfl

/-! ### Tables -/

@[simp] theorem tset_self {α : Type} {n : Nat} (v : Vector α n) (i : Fin n) (x : α) : (tset v i x)[i] = x := by
  simp [tset]

theorem tset_ne {α : Type} {n : Nat} (v : Vector α n) (i j : Fin n) (x : α) (h : j ≠ i) : (tset v i x)[j] = v[j] := by
  have h' : i.val ≠ j.val := fun e => h (Fin.ext e.symm)
  simp [tset, h']

@[simp] theorem tabulate_get {α : Type} {n : Nat} (f : Fin n → α) (i : Fin n) : (tabulate f)[i] = f i := by
  simp [tabulate, Vector.getElem_mk]

@[simp] theorem State.str_setStr (s : State) (i : StringNo) (r : StringRec) : (s.setStr i r).str i = r :=
  tset_self s.strings i r

theorem State.str_setStr_ne (s : State) (i j : StringNo) (r : StringRec) (h : j ≠ i) : (s.setStr i r).str j = s.str j :=
  tset_ne s.strings i j r h

@[simp] theorem State.str_modStr (s : State) (i : StringNo) (f : StringRec → StringRec) :
    (s.modStr i f).str i = f (s.str i) := State.str_setStr s i _

theorem State.str_modStr_ne (s : State) (i j : StringNo) (f : StringRec → StringRec) (h : j ≠ i) :
    (s.modStr i f).str j = s.str j := State.str_setStr_ne s i j _ h

@[simp] theorem State.str_mapStrings (s : State) (f : StringNo → StringRec → StringRec) (i : StringNo) :
    (s.mapStrings f).str i = f i (s.str i) := tabulate_get _ i

@[simp] theorem State.bay_setBay (s : State) (b : BayNo) (r : Bay) : (s.setBay b r).bay b = r := tset_self s.bays b r

theorem State.bay_setBay_ne (s : State) (b c : BayNo) (r : Bay) (h : c ≠ b) : (s.setBay b r).bay c = s.bay c :=
  tset_ne s.bays b c r h

@[simp] theorem State.bay_modBay (s : State) (b : BayNo) (f : Bay → Bay) : (s.modBay b f).bay b = f (s.bay b) :=
  State.bay_setBay s b _

theorem State.bay_modBay_ne (s : State) (b c : BayNo) (f : Bay → Bay) (h : c ≠ b) : (s.modBay b f).bay c = s.bay c :=
  State.bay_setBay_ne s b c _ h

@[simp] theorem StringRec.cell_setCell (r : StringRec) (p : Position) (c : Cell) : (r.setCell p c).cell p = c :=
  tset_self r.cells p c

theorem StringRec.cell_setCell_ne (r : StringRec) (p q : Position) (c : Cell) (h : q ≠ p) :
    (r.setCell p c).cell q = r.cell q := tset_ne r.cells p q c h

@[simp] theorem StringRec.cell_mapCells (r : StringRec) (f : Position → Cell → Cell) (p : Position) :
    (r.mapCells f).cell p = f p (r.cell p) := tabulate_get _ p

end Sys2Proof.Machine
end

