-- ==== Sys2Proof/Laws/Ops.lean ====
section
/-! SUPPORT. What each shared operation can do, said once: the arbiter and its queues, the offers, the Hold Set, posting a
result, and the taking of a management request. Each `_fp`, `_eq` lemma says which fields of the state an operation can write:
the state after it is the state before it with those fields replaced. -/

namespace Sys2Proof.Machine

open Sys2Proof

/-! ### Folds -/

/-- What every step of a fold keeps, the fold keeps. -/
theorem foldl_keeps {α β : Type} (P : β → Prop) (f : β → α → β) (step : ∀ b a, P b → P (f b a)) :
    ∀ (l : List α) (b : β), P b → P (l.foldl f b)
  | [], _, h => h
  | a :: l, b, h => foldl_keeps P f step l (f b a) (step b a h)

/-! ### The arbiter and the transmit queues (R13) -/

theorem PortState.arbitrate_sending (q : PortState) (f : Frame) (h : q.sending = some f) : q.arbitrate = q := by
  simp [PortState.arbitrate, h]

/-- The arbiter starts no frame, or the head of one queue. -/
theorem PortState.arbitrate_cases (q : PortState) :
    q.arbitrate = q ∨ (∃ f l, q.localQ = f :: l ∧ q.arbitrate = q.startLocal f l) ∨
      ∃ f l, q.forwardQ = f :: l ∧ q.arbitrate = q.startForward f l := by
  unfold PortState.arbitrate
  split
  · exact .inl rfl
  · exact .inl rfl
  · exact .inr (.inl ⟨_, _, by assumption, rfl⟩)
  · exact .inr (.inr ⟨_, _, by assumption, rfl⟩)
  · split
    · exact .inr (.inl ⟨_, _, by assumption, rfl⟩)
    · exact .inr (.inr ⟨_, _, by assumption, rfl⟩)

/-- The arbiter lengthens no queue, and leaves the receiver and the bad-frame count. -/
theorem PortState.arbitrate_bounds (q : PortState) :
    q.arbitrate.localQ.length ≤ q.localQ.length ∧ q.arbitrate.forwardQ.length ≤ q.forwardQ.length ∧
      q.arbitrate.rx = q.rx ∧ q.arbitrate.badFrames = q.badFrames := by
  obtain h | ⟨f, l, hq, h⟩ | ⟨f, l, hq, h⟩ := q.arbitrate_cases <;> rw [h]
  · exact ⟨le_rfl, le_rfl, rfl, rfl⟩
  · exact ⟨by simp [PortState.startLocal, hq], le_rfl, rfl, rfl⟩
  · exact ⟨le_rfl, by simp [PortState.startForward, hq], rfl, rfl⟩

/-- A local push lengthens the local queue by at most one, and the forward queue not at all. -/
theorem PortState.pushLocal_bounds (q : PortState) (f : Frame) :
    (q.pushLocal f).localQ.length ≤ q.localQ.length + 1 ∧ (q.pushLocal f).forwardQ.length ≤ q.forwardQ.length ∧
      (q.pushLocal f).rx = q.rx ∧ (q.pushLocal f).badFrames = q.badFrames := by
  have h := PortState.arbitrate_bounds { q with localQ := q.localQ ++ [f] }
  simpa [PortState.pushLocal] using h

/-- A forward push lengthens the forward queue by at most one, and the local queue not at all. -/
theorem PortState.pushForward_bounds (q : PortState) (f : Frame) :
    (q.pushForward f).localQ.length ≤ q.localQ.length ∧ (q.pushForward f).forwardQ.length ≤ q.forwardQ.length + 1 ∧
      (q.pushForward f).rx = q.rx ∧ (q.pushForward f).badFrames = q.badFrames := by
  have h := PortState.arbitrate_bounds { q with forwardQ := q.forwardQ ++ [f] }
  simpa [PortState.pushForward] using h

@[simp] theorem FramePath.port_setPort (fp : FramePath) (p : Port) (q : PortState) : (fp.setPort p q).port p = q := by
  cases p <;> rfl

theorem FramePath.port_setPort_ne (fp : FramePath) (p p' : Port) (q : PortState) (h : p' ≠ p) :
    (fp.setPort p q).port p' = fp.port p' := by
  cases p <;> cases p' <;> first | rfl | exact absurd rfl h

@[simp] theorem FramePath.setPort_offers (fp : FramePath) (p : Port) (q : PortState) : (fp.setPort p q).offers = fp.offers := by
  cases p <;> rfl

/-! ### Frames bound for a forward queue (R6, R7) -/

theorem State.forwardDown_cases (s : State) (f : Frame) :
    (s.fp.chain.forwardQ.length < 16 ∧ s.forwardDown f = s.modPort .chain (·.pushForward f)) ∨
      (16 ≤ s.fp.chain.forwardQ.length ∧ s.forwardDown f = s.countDownDrop) := by
  unfold State.forwardDown
  split
  · exact .inl ⟨by assumption, rfl⟩
  · exact .inr ⟨Nat.not_lt.mp ‹_›, rfl⟩

theorem State.forwardUp_cases (s : State) (f : Frame) :
    (s.fp.trunk.forwardQ.length < 16 ∧ s.forwardUp f = s.modPort .trunk (·.pushForward f)) ∨
      (16 ≤ s.fp.trunk.forwardQ.length ∧ s.forwardUp f = s.countUpDrop) := by
  unfold State.forwardUp
  split
  · exact .inl ⟨by assumption, rfl⟩
  · exact .inr ⟨Nat.not_lt.mp ‹_›, rfl⟩

/-! ### Frames bound for the trunk-local queue (R12) -/

theorem State.offerUp_cases (s : State) (f : Frame) :
    (s.fp.trunk.localQ.length < 8 ∧ s.mgmt.mu = .idle ∧ s.offerUp f = s.modPort .trunk (·.pushLocal f)) ∨
      ((8 ≤ s.fp.trunk.localQ.length ∨ s.mgmt.mu ≠ .idle) ∧ s.offerUp f = s.countUpDrop) := by
  unfold State.offerUp
  split <;> rename_i h <;> simp only [State.noticeRoom, State.trunkLocalRoom, Bool.and_eq_true, decide_eq_true_eq] at h
  · exact .inl ⟨h.1, h.2, rfl⟩
  · exact .inr ⟨(not_and_or.mp h).imp Nat.not_lt.mp id, rfl⟩

theorem State.offerUp_fp (s : State) (f : Frame) : s.offerUp f = { s with fp := (s.offerUp f).fp } := by
  obtain ⟨_, _, h⟩ | ⟨_, h⟩ := s.offerUp_cases f <;> rw [h] <;> rfl

/-- An offer to the trunk-local queue leaves the chain port and the waiting offers. -/
theorem State.offerUp_chain (s : State) (f : Frame) :
    (s.offerUp f).fp.chain = s.fp.chain ∧ (s.offerUp f).fp.offers = s.fp.offers := by
  obtain ⟨_, _, h⟩ | ⟨_, h⟩ := s.offerUp_cases f <;> rw [h] <;> exact ⟨rfl, rfl⟩

/-! ### Offers to the chain-local queue (R11) -/

theorem State.takeCmd_fp (s : State) (c : ChainCmd) : s.takeCmd c = { s with fp := (s.takeCmd c).fp } := rfl

theorem State.waitOffer_fp (s : State) (a : Activity) (c : ChainCmd) : s.waitOffer a c = { s with fp := (s.waitOffer a c).fp } := rfl

theorem State.withdraw_fp (s : State) (a : Activity) : s.withdraw a = { s with fp := (s.withdraw a).fp } := rfl

/-- A timer start of a bay writes that bay, and of it the confirm timer. -/
theorem State.startConfirm_cases (s : State) (b : BayNo) (c : ChainCmd) :
    s.startConfirm b c = s ∨ s.startConfirm b c = s.modBay b fun r => { r with confirm := .running s.site.confirmTime } := by
  unfold State.startConfirm
  split
  · exact .inr rfl
  · exact .inr rfl
  · exact .inl rfl

theorem State.startConfirm_eq (s : State) (b : BayNo) (c : ChainCmd) :
    s.startConfirm b c = { s with bays := (s.startConfirm b c).bays } := by
  obtain h | h := s.startConfirm_cases b c <;> rw [h] <;> rfl

theorem State.offerBayLast_cases (s : State) (b : BayNo) (c : ChainCmd) :
    (s.offerRoom = true ∧ s.offerBayLast b c = (s.takeCmd c).startConfirm b c) ∨
      (s.offerRoom = false ∧ s.offerBayLast b c = s.waitOffer (.bay b) c) := by
  unfold State.offerBayLast
  cases s.offerRoom <;> simp

theorem State.offerBayLast_eq (s : State) (b : BayNo) (c : ChainCmd) :
    s.offerBayLast b c = { s with fp := (s.offerBayLast b c).fp, bays := (s.offerBayLast b c).bays } := by
  obtain ⟨_, h⟩ | ⟨_, h⟩ := s.offerBayLast_cases b c <;> rw [h]
  · rw [State.startConfirm_eq]; rfl
  · rfl

theorem State.bayTaken_eq (s : State) (b : BayNo) (c : ChainCmd) :
    s.bayTaken b c = { s with fp := (s.bayTaken b c).fp, bays := (s.bayTaken b c).bays } := by
  unfold State.bayTaken
  split
  · rw [State.startConfirm_eq]
  · rw [State.offerBayLast_eq, State.startConfirm_eq]; rfl

/-- A step of a bay writes the Frame Path and the bays. -/
theorem State.beginStep_eq (s : State) (b : BayNo) (c : ChainCmd) (d : Option ChainCmd) :
    s.beginStep b c d = { s with fp := (s.beginStep b c d).fp, bays := (s.beginStep b c d).bays } := by
  unfold State.beginStep
  dsimp only
  split
  · rw [State.bayTaken_eq]; rfl
  · rfl

/-! ### The Hold Set (R150 to R153) -/

theorem mem_insertHold (h x : Hold) : ∀ l : List Hold, x ∈ insertHold h l ↔ x = h ∨ x ∈ l
  | [] => by simp [insertHold]
  | y :: l => by
    unfold insertHold
    split
    · simp
    · simp only [List.mem_cons, mem_insertHold h x l]; tauto

theorem State.takeHold_held (s : State) (a : Byte) (h h' : Holder) (held : s.holderOf a = some h') : s.takeHold a h = s := by
  simp [State.takeHold, held]

theorem State.takeHold_free (s : State) (a : Byte) (h : Holder) (free : s.holderOf a = none) :
    s.takeHold a h = { s with holds := insertHold ⟨a, h⟩ s.holds }.purge a h := by
  simp [State.takeHold, free]

/-- A purge writes the Frame Path. -/
theorem State.purge_fp (s : State) (a : Byte) (h : Holder) : s.purge a h = { s with fp := (s.purge a h).fp } := by
  unfold State.purge
  exact foldl_keeps (fun t : State => t = { s with fp := t.fp }) _
    (fun t f ht => by rw [State.offerUp_fp]; dsimp only; rw [ht]) _ _ rfl

/-- A take writes the Frame Path and the Hold Set. -/
theorem State.takeHold_eq (s : State) (a : Byte) (h : Holder) :
    s.takeHold a h = { s with fp := (s.takeHold a h).fp, holds := (s.takeHold a h).holds } := by
  unfold State.takeHold
  split
  · rfl
  · rw [State.purge_fp]

/-- After a take of an address that was not held, the set holds what it held and the new hold. -/
theorem State.takeHold_holds (s : State) (a : Byte) (h : Holder) (free : s.holderOf a = none) :
    (s.takeHold a h).holds = insertHold ⟨a, h⟩ s.holds := by
  rw [State.takeHold_free s a h free, State.purge_fp]

/-- The lower address of two is taken first. -/
theorem State.takeTwo_cases (s : State) (x y : Hold) :
    (y.addr.toNat < x.addr.toNat ∧ s.takeTwo x y = (s.takeHold y.addr y.holder).takeHold x.addr x.holder) ∨
      (x.addr.toNat ≤ y.addr.toNat ∧ s.takeTwo x y = (s.takeHold x.addr x.holder).takeHold y.addr y.holder) := by
  unfold State.takeTwo
  split
  · exact .inl ⟨‹_›, rfl⟩
  · exact .inr ⟨Nat.not_lt.mp ‹_›, rfl⟩

/-- Two takes write the Frame Path and the Hold Set. -/
theorem State.takeTwo_eq (s : State) (x y : Hold) :
    s.takeTwo x y = { s with fp := (s.takeTwo x y).fp, holds := (s.takeTwo x y).holds } := by
  obtain ⟨_, h⟩ | ⟨_, h⟩ := s.takeTwo_cases x y <;> rw [h, State.takeHold_eq, State.takeHold_eq s]

theorem State.mem_releaseHold (s : State) (a : Byte) (h : Holder) (x : Hold) :
    x ∈ (s.releaseHold a h).holds ↔ x ∈ s.holds ∧ x ≠ ⟨a, h⟩ := by simp

/-! ### Results (R163, R164, R167) -/

theorem setGap_length (l : List Result) : (setGap l).length = l.length := by cases l <;> rfl

/-- The Result Queue never holds more than 16 records. -/
theorem queueResult_length (l : List Result) (r : Result) (h : l.length ≤ 16) : (queueResult l r).length ≤ 16 := by
  unfold queueResult
  split <;> simp [Config.resultCap, setGap_length] at *
  · omega
  · omega

/-- A posting writes the Result Queue and the Frame Path. -/
theorem State.post_eq (s : State) (r : Result) :
    s.post r =
      { s with fp := (s.post r).fp, mgmt := { s.mgmt with results := queueResult s.mgmt.results r } } := by
  unfold State.post
  dsimp only
  rw [State.offerUp_fp]

/-! ### Management requests (R175) -/

/-- The reply is taken, or MU is WAITING with it. -/
theorem State.sendReply_cases (s : State) (dst code : Byte) (r : Reply) :
    (s.fp.trunk.localQ.length < 8 ∧
        s.sendReply dst code r = s.modPort .trunk (·.pushLocal (replyFrame s.own dst code r))) ∨
      (8 ≤ s.fp.trunk.localQ.length ∧
        s.sendReply dst code r = { s with mgmt := { s.mgmt with mu := .waiting (replyFrame s.own dst code r) false } }) := by
  unfold State.sendReply
  dsimp only
  split <;> rename_i h <;> simp only [State.trunkLocalRoom, decide_eq_true_eq] at h
  · exact .inl ⟨h, rfl⟩
  · exact .inr ⟨Nat.not_lt.mp h, rfl⟩

/-- A reply writes the trunk port and MU. -/
theorem State.sendReply_eq (s : State) (dst code : Byte) (r : Reply) :
    s.sendReply dst code r =
      { s with fp := { s.fp with trunk := (s.sendReply dst code r).fp.trunk },
               mgmt := { s.mgmt with mu := (s.sendReply dst code r).mgmt.mu } } := by
  obtain ⟨_, h⟩ | ⟨_, h⟩ := s.sendReply_cases dst code r <;> rw [h] <;> rfl

/-- A request of the row's kind at the head of an IDLE MU's queue is answered. -/
theorem State.takeRequest_head (s : State) (k : RequestKind) (answer : State → List Byte → Answer) (r : Request)
    (rest : List Request) (idle : s.mgmt.mu = .idle) (head : s.mgmt.input = r :: rest) (kind : requestKind r.payload = k) :
    s.takeRequest k answer = s.answerHead r rest answer := by
  simp [State.takeRequest, idle, head, kind]

/-- Anything else leaves the state as it is. -/
theorem State.takeRequest_not_due (s : State) (k : RequestKind) (answer : State → List Byte → Answer)
    (h : s.mgmt.mu = .idle → ∀ r rest, s.mgmt.input = r :: rest → requestKind r.payload ≠ k) :
    s.takeRequest k answer = s := by
  unfold State.takeRequest
  split
  · rw [if_neg (h ‹_› _ _ ‹_›)]
  · rfl

/-! ### The evaluation at the end of an action (R75) -/

theorem State.settle_settled (s : State) (h : s.evalDue = false) : s.settle = s := by simp [State.settle, h]

theorem State.settle_due (s : State) (h : s.evalDue = true) : s.settle = { s with evalDue := false }.evaluate := by
  simp [State.settle, h]

/-! ### Retry holds over a warm restart (R81) -/

theorem carryHold_ended (now m : Nat) (h : m ≤ now) : carryHold now (some m) = none := by simp [carryHold, h]

theorem carryHold_goes_on (now m : Nat) (h : now < m) : carryHold now (some m) = some (m - now) := by
  simp [carryHold, Nat.not_le.mpr h]

/-- A hold that is carried over has at least one minute left. -/
theorem carryHold_pos (now : Nat) (old : Option Nat) (m : Nat) (h : carryHold now old = some m) : 1 ≤ m := by
  cases old with
  | none => simp [carryHold] at h
  | some e =>
    by_cases he : e ≤ now
    · simp [carryHold_ended now e he] at h
    · rw [carryHold_goes_on now e (Nat.not_le.mp he)] at h
      injection h
      omega

/-! ### Qualifiers (R31) -/

/-- An advance keeps an agree count between 0 and 2. -/
theorem Qualifier.advance_agree (q : Qualifier) (cond : Bool) (h : q.agree ≤ 2) : (q.advance cond).agree ≤ 2 := by
  unfold Qualifier.advance
  split
  · exact Nat.zero_le 2
  · split
    · exact Nat.zero_le 2
    · dsimp only; simp at *; omega

end Sys2Proof.Machine
end

