-- ==== Sys2Proof/Laws/Kept.lean ====
section
/-! SUPPORT. What the engines leave alone: no operation of EQ, WT, GS, RQ or the Frame Path, and so no evaluation, writes the
straps, the clock, the census limit, the configuration tables, the ceiling or the model's queue of commands. -/

namespace Sys2Proof.Machine

open Sys2Proof

/-- The fields that no engine writes are the same in both states. -/
structure Kept (s t : State) : Prop where
  node : t.node = s.node
  baud : t.baud = s.baud
  clock : t.clock = s.clock
  silenceTimeout : t.silenceTimeout = s.silenceTimeout
  site : t.site = s.site
  sourceMap : t.sourceMap = s.sourceMap
  profiles : t.profiles = s.profiles
  ceiling : t.ceiling = s.ceiling
  pending : t.pending = s.pending
  cfg : ∀ i, (t.str i).cfg = (s.str i).cfg

theorem Kept.refl (s : State) : Kept s s := ⟨rfl, rfl, rfl, rfl, rfl, rfl, rfl, rfl, rfl, fun _ => rfl⟩

theorem Kept.trans {s t u : State} (h : Kept s t) (k : Kept t u) : Kept s u :=
  ⟨k.node.trans h.node, k.baud.trans h.baud, k.clock.trans h.clock, k.silenceTimeout.trans h.silenceTimeout, k.site.trans h.site, k.sourceMap.trans h.sourceMap,
    k.profiles.trans h.profiles, k.ceiling.trans h.ceiling, k.pending.trans h.pending, fun i => (k.cfg i).trans (h.cfg i)⟩

theorem Kept.foldl {α : Type} (f : State → α → State) (step : ∀ s a, Kept s (f s a)) (l : List α) (s : State) :
    Kept s (l.foldl f s) :=
  foldl_keeps (Kept s) f (fun t a h => h.trans (step t a)) l s (Kept.refl s)

/-! ### The updates -/

/-- An update of the fields that engines own leaves the others. -/
theorem Kept.engine (s : State) (fp : FramePath) (requests : List Entry) (bays : Vector Bay 2) (water : Watering) (gas : Gas)
    (holds : List Hold) (mgmt : Management) (due : Bool) :
    Kept s { s with
      fp := fp, requests := requests, bays := bays, water := water, gas := gas, holds := holds, mgmt := mgmt, evalDue := due } :=
  ⟨rfl, rfl, rfl, rfl, rfl, rfl, rfl, rfl, rfl, fun _ => rfl⟩

/-- An update of a string record that leaves its configuration. -/
theorem Kept.modStr (s : State) (i : StringNo) (f : StringRec → StringRec) (h : ∀ r, (f r).cfg = r.cfg) :
    Kept s (s.modStr i f) :=
  ⟨rfl, rfl, rfl, rfl, rfl, rfl, rfl, rfl, rfl, fun j => by
    by_cases e : j = i
    · subst e; rw [State.str_modStr]; exact h _
    · rw [State.str_modStr_ne s i j f e]⟩

theorem Kept.modBay (s : State) (b : BayNo) (f : Bay → Bay) : Kept s (s.modBay b f) := Kept.engine s _ _ _ _ _ _ _ _
theorem Kept.setBay (s : State) (b : BayNo) (r : Bay) : Kept s (s.setBay b r) := Kept.engine s _ _ _ _ _ _ _ _
theorem Kept.modGas (s : State) (f : Gas → Gas) : Kept s (s.modGas f) := Kept.engine s _ _ _ _ _ _ _ _
theorem Kept.modWater (s : State) (f : Watering → Watering) : Kept s (s.modWater f) := Kept.engine s _ _ _ _ _ _ _ _
theorem Kept.modRound (s : State) (f : Round → Round) : Kept s (s.modRound f) := Kept.modWater s _
theorem Kept.trigger (s : State) : Kept s s.trigger := Kept.engine s _ _ _ _ _ _ _ _
theorem Kept.enterFloat (s : State) (i : StringNo) : Kept s (s.enterFloat i) := by
  unfold State.enterFloat
  refine .trans ?_ (Kept.trigger _)
  exact Kept.modStr s i _ fun _ => rfl

/-! ### The Frame Path, the Hold Set and the results -/

theorem Kept.offerUp (s : State) (f : Frame) : Kept s (s.offerUp f) := by
  rw [State.offerUp_fp]; exact Kept.engine s _ _ _ _ _ _ _ _
theorem Kept.takeCmd (s : State) (c : ChainCmd) : Kept s (s.takeCmd c) := Kept.engine s _ _ _ _ _ _ _ _
theorem Kept.waitOffer (s : State) (a : Activity) (c : ChainCmd) : Kept s (s.waitOffer a c) := Kept.engine s _ _ _ _ _ _ _ _
theorem Kept.withdraw (s : State) (a : Activity) : Kept s (s.withdraw a) := Kept.engine s _ _ _ _ _ _ _ _
theorem Kept.beginStep (s : State) (b : BayNo) (c : ChainCmd) (d : Option ChainCmd) : Kept s (s.beginStep b c d) := by
  rw [State.beginStep_eq]; exact Kept.engine s _ _ _ _ _ _ _ _
theorem Kept.takeHold (s : State) (a : Byte) (h : Holder) : Kept s (s.takeHold a h) := by
  rw [State.takeHold_eq]; exact Kept.engine s _ _ _ _ _ _ _ _
theorem Kept.releaseHold (s : State) (a : Byte) (h : Holder) : Kept s (s.releaseHold a h) := Kept.engine s _ _ _ _ _ _ _ _
theorem Kept.releaseAll (s : State) (h : Holder) : Kept s (s.releaseAll h) := Kept.engine s _ _ _ _ _ _ _ _
theorem Kept.post (s : State) (r : Result) : Kept s (s.post r) := by
  rw [State.post_eq]; exact Kept.engine s _ _ _ _ _ _ _ _
theorem Kept.sendReply (s : State) (dst code : Byte) (r : Reply) : Kept s (s.sendReply dst code r) := by
  rw [State.sendReply_eq]; exact Kept.engine s _ _ _ _ _ _ _ _

theorem Kept.takeTwo (s : State) (x y : Hold) : Kept s (s.takeTwo x y) := by
  unfold State.takeTwo; split <;> exact (Kept.takeHold s _ _).trans (Kept.takeHold _ _ _)

/-! ### The fan (R120, R121) -/

theorem Kept.offerFan (s : State) (on : Bool) : Kept s (s.offerFan on) := by
  unfold State.offerFan; split
  · exact Kept.takeCmd _ _
  · exact Kept.waitOffer _ _ _

theorem Kept.fanStart (s : State) : Kept s s.fanStart :=
  (((Kept.modGas s _).trans (Kept.withdraw _ _)).trans (Kept.takeHold _ _ _)).trans (Kept.offerFan _ _)

theorem Kept.fanStop (s : State) : Kept s s.fanStop :=
  (((Kept.modGas s _).trans (Kept.withdraw _ _)).trans (Kept.offerFan _ _)).trans (Kept.releaseHold _ _ _)

theorem Kept.fanFollow (s : State) (before : Bool) : Kept s (s.fanFollow before) := by
  unfold State.fanFollow State.needEnds State.needArises
  split
  · exact Kept.refl s
  · split
    · split
      · split
        · exact Kept.fanStop s
        · exact Kept.modGas s _
      · exact Kept.refl s
    · split
      · split
        · exact Kept.fanStart s
        · exact Kept.refl s
        · exact Kept.modGas s _
      · exact Kept.refl s

theorem Kept.noteBayEntry (s : State) : Kept s s.noteBayEntry := (Kept.modGas s _).trans (Kept.fanFollow _ _)
theorem Kept.noteBayExit (s : State) : Kept s s.noteBayExit := (Kept.modGas s _).trans (Kept.fanFollow _ _)

/-! ### Equalise jobs -/

theorem Kept.notePeak (s : State) (b : BayNo) (i : StringNo) : Kept s (s.notePeak b i) := Kept.modBay s b _
theorem Kept.recordEnd (s : State) (b : BayNo) (i : StringNo) (e : EndRec) : Kept s (s.recordEnd b i e) :=
  (Kept.modBay s b _).trans (Kept.notePeak _ b i)

theorem Kept.noteMean (s : State) (i : StringNo) : Kept s (s.noteMean i) := by
  unfold State.noteMean; split
  · exact Kept.refl s
  · exact Kept.modStr s i _ fun _ => rfl

theorem Kept.newSetpoint (s : State) (b : BayNo) (i : StringNo) : Kept s (s.newSetpoint b i) :=
  (Kept.noteMean s i).trans (Kept.modBay _ b _)

theorem Kept.reportEnd (s : State) (i : StringNo) (e : EndRec) : Kept s (s.reportEnd i e) := by
  unfold State.reportEnd; split
  · exact Kept.modStr s i _ fun _ => rfl
  · split
    · exact Kept.refl s
    · exact Kept.modStr s i _ fun _ => rfl

theorem Kept.postEqualise (s : State) (b : BayNo) (i : StringNo) (isolated : Bool) (elapsed : Nat) :
    Kept s (s.postEqualise b i isolated elapsed) := (Kept.post s _).trans (Kept.reportEnd _ i _)

theorem Kept.freeBay (s : State) (b : BayNo) (i : StringNo) : Kept s (s.freeBay b i) := by
  have h : Kept s ((((s.releaseHold (s.str i).cfg.switch (.switch i)).setBay b {}).modStr i
      fun r => { r with bay := none }).trigger) := by
    refine .trans ?_ (Kept.trigger _)
    refine .trans ?_ (Kept.modStr _ i _ fun _ => rfl)
    exact (Kept.releaseHold s _ _).trans (Kept.setBay _ b {})
  unfold State.freeBay
  dsimp only
  split
  · exact h.trans (Kept.releaseHold _ _ _)
  · exact h

theorem Kept.endInBaseline (s : State) (b : BayNo) (i : StringNo) (e : EndRec) (elapsed : Nat) :
    Kept s (s.endInBaseline b i e elapsed) :=
  ((((Kept.recordEnd s b i e).trans (Kept.postEqualise _ b i false elapsed)).trans (Kept.freeBay _ b i)).trans
    (Kept.enterFloat _ i)).trans (Kept.noteBayExit _)

theorem Kept.endToTransferBack (s : State) (b : BayNo) (i : StringNo) (e : EndRec) : Kept s (s.endToTransferBack b i e) := by
  unfold State.endToTransferBack State.backStep
  refine .trans ?_ (Kept.beginStep _ _ _ _)
  refine .trans ?_ (Kept.modStr _ i _ fun _ => rfl)
  exact (Kept.recordEnd s b i e).trans (Kept.modBay _ b _)

theorem Kept.endJob (s : State) (b : BayNo) (e : EndRec) : Kept s (s.endJob b e) := by
  unfold State.endJob
  split
  · exact Kept.refl s
  · split <;> first | exact Kept.endInBaseline _ _ _ _ _ | exact Kept.endToTransferBack _ _ _ _ | exact Kept.refl s

theorem Kept.endStringJob (s : State) (i : StringNo) (cause : Cause) : Kept s (s.endStringJob i cause) := by
  unfold State.endStringJob; split
  · exact Kept.refl s
  · exact Kept.endJob s _ _

theorem Kept.sweepComplete (s : State) (i : StringNo) : Kept s (s.sweepComplete i) := by
  unfold State.sweepComplete
  split
  · unfold State.startStep
    refine .trans ?_ (Kept.beginStep _ _ _ _)
    refine .trans ?_ (Kept.modStr _ i _ fun _ => rfl)
    exact ((Kept.modBay s _ _).trans (Kept.notePeak _ _ i)).trans (Kept.newSetpoint _ _ i)
  · exact Kept.refl s

theorem Kept.sweepAsk : ∀ (n : Nat) (i : StringNo) (s : State), Kept s (s.sweepAsk n i)
  | 0, _, s => Kept.refl s
  | n + 1, i, s => by
    unfold State.sweepAsk
    split
    · exact Kept.refl s
    · split
      · refine .trans ?_ (Kept.sweepAsk n i _)
        refine .trans ?_ (Kept.modStr _ i _ fun _ => rfl)
        exact Kept.takeCmd s _
      · exact Kept.waitOffer s _ _

theorem Kept.startSweep (s : State) (i : StringNo) : Kept s (s.startSweep i) := by
  unfold State.startSweep
  split
  · exact Kept.sweepComplete s i
  · refine .trans ?_ (Kept.sweepAsk _ i _)
    exact Kept.modStr s i _ fun _ => rfl

theorem Kept.baselineSweep (s : State) (i : StringNo) : Kept s (s.baselineSweep i) := by
  unfold State.baselineSweep; split
  · exact Kept.refl s
  · exact Kept.startSweep s i

/-! ### Watering rounds -/

theorem Kept.settleQ (s : State) (i : StringNo) (e : EndRec) : Kept s (s.settleQ i e) := Kept.modStr s i _ fun _ => rfl

theorem Kept.endRoundWith (s : State) (e : EndRec) (extra elapsed : Nat) : Kept s (s.endRoundWith e extra elapsed) := by
  unfold State.endRoundWith
  dsimp only
  split
  · exact ((Kept.modRound s _).trans (Kept.modRound _ _)).trans (Kept.trigger _)
  · exact (((((Kept.modRound s _).trans (Kept.settleQ _ _ e)).trans (Kept.releaseAll _ _)).trans (Kept.enterFloat _ _)).trans
      (Kept.modRound _ _)).trans (Kept.post _ _)

theorem Kept.openFill (s : State) (i : StringNo) (p : Position) (rest : List Position) : Kept s (s.openFill i p rest) := by
  unfold State.openFill
  split
  · exact Kept.refl s
  · dsimp only
    split
    · exact ((Kept.modRound s _).trans (Kept.takeCmd _ _)).trans (Kept.modRound _ _)
    · exact (Kept.modRound s _).trans (Kept.waitOffer _ _ _)

theorem Kept.nextFill (s : State) : Kept s s.nextFill := by
  unfold State.nextFill
  split
  · split
    · split
      · exact Kept.endRoundWith s _ _ _
      · exact Kept.openFill s _ _ _
    · exact Kept.endRoundWith s _ _ _
  · exact Kept.refl s

theorem Kept.grantWatering (s : State) (i : StringNo) (src : SourceSet) : Kept s (s.grantWatering i src) := by
  unfold State.grantWatering
  refine .trans ?_ (Kept.nextFill _)
  refine .trans ?_ (Kept.foldl _ (fun t a => Kept.takeHold t a _) _ _)
  refine .trans ?_ (Kept.modStr _ i _ fun _ => rfl)
  exact Kept.modRound s _

/-! ### Requests and the evaluation -/

theorem Kept.raise (s : State) (i : StringNo) (k : JobKind) (src : Source) (level : Nat) : Kept s (s.raise i k src level) :=
  Kept.engine s _ _ _ _ _ _ _ _

theorem Kept.dropEntry (s : State) (i : StringNo) (k : JobKind) : Kept s (s.dropEntry i k) := Kept.engine s _ _ _ _ _ _ _ _

theorem Kept.grantEqualise (s : State) (i : StringNo) (b : BayNo) (limit : Nat) (reduced : Bool) :
    Kept s (s.grantEqualise i b limit reduced) := by
  unfold State.grantEqualise
  refine .trans ?_ (Kept.noteBayEntry _)
  refine .trans ?_ (Kept.baselineSweep _ i)
  refine .trans ?_ (Kept.takeTwo _ _ _)
  refine .trans ?_ (Kept.modStr _ i _ fun _ => rfl)
  exact Kept.setBay s b _

theorem Kept.bayPick (s : State) : Kept s s.bayPick := by
  unfold State.bayPick
  split
  · exact Kept.refl s
  · split
    · exact Kept.refl s
    · exact (Kept.dropEntry s _ _).trans (Kept.grantEqualise _ _ _ _ _)

theorem Kept.manifoldPick (s : State) : Kept s s.manifoldPick := by
  unfold State.manifoldPick
  split
  · exact Kept.refl s
  · exact (Kept.dropEntry s _ _).trans (Kept.grantWatering _ _ _)

/-- An evaluation writes no configuration, and neither the clock nor the straps. -/
theorem Kept.evaluate (s : State) : Kept s s.evaluate :=
  ((Kept.bayPick s).trans (Kept.bayPick _)).trans (Kept.manifoldPick _)

theorem Kept.settle (s : State) : Kept s s.settle := by
  unfold State.settle; split
  · exact (Kept.engine s s.fp s.requests s.bays s.water s.gas s.holds s.mgmt false).trans (Kept.evaluate _)
  · exact Kept.refl s

end Sys2Proof.Machine
end

