-- ==== Sys2Proof/WellFormed.lean ====
section
/-! DEFINITION. Which commands spell something that can happen at the part's pins: the bounds of the frames, and the frames
that belong to the row. `exec` does not rely on it: it gives every command a next state. -/

namespace Sys2Proof

open Machine

/-- The payload fits a frame (R2). -/
def fitsFrame (payload : List Byte) : Bool := payload.length ≤ Config.maxLen

/-- A destination that is not invalid (R5). -/
def goodDst (dst : Byte) : Bool := !isInvalidDst dst

/-- A chain frame's source that Intake reads (R7): not a node address. -/
def readSource (src : Byte) : Bool := !isNodeAddr src

/-- The command is well-formed. -/
def Instr.wf : Instr → Bool
  | .coldReset _ _ => true
  | .lineError _ _ => true
  | .badFrame _ _ => true
  | .mgmtRequest _ payload => fitsFrame payload
  | .trunkFrameForward dst _ _ payload => goodDst dst && fitsFrame payload
  | .heldAddressRefusal dst _ kind payload => isFieldAddr dst && isCommandKind kind && fitsFrame payload
  | .chainFrameForward dst _ _ payload => goodDst dst && fitsFrame payload
  | .cellReport dst src samples => goodDst dst && readSource src && 1 ≤ samples.length && samples.length ≤ 4
  | .stringReport dst src _ _ => goodDst dst && readSource src
  | .levelReport dst src _ _ => goodDst dst && readSource src
  | .valveReport dst src _ _ _ => goodDst dst && readSource src
  | .switchReport dst src _ => goodDst dst && readSource src
  | .chargerReport dst src _ _ _ _ => goodDst dst && readSource src
  | .gasReport dst src _ _ => goodDst dst && readSource src
  | .transmissionEnd _ => true
  | .chainLocalOfferTaken => true
  | .mgmtReplyTaken => true
  | .tableWriteSite => true
  | .tableWriteSourceMap => true
  | .tableWriteString => true
  | .tableWriteCell => true
  | .tableWriteProfile => true
  | .tableRead => true
  | .restore => true
  | .jobStart => true
  | .jobCancel => true
  | .setCeiling => true
  | .setTank => true
  | .fetchResult => true
  | .snapshot => true
  | .readSnapshot => true
  | .survey => true
  | .sweep => true
  | .release => true
  | .clearTrip => true
  | .status => true
  | .restart => true
  | .warmRestart => true
  | .unknownRequest => true
  | .hourTick => true
  | .censusExpiry _ => true
  | .presenceTimeout _ => true
  | .sweepTimeout _ => true
  | .confirmExpiryOut _ => true
  | .confirmExpiryBack _ => true
  | .sampleTimerExpiry _ => true
  | .windowExpiry _ => true
  | .durationExpiry _ => true
  | .holdTimerExpiry _ => true
  | .settleExpiry _ => true
  | .retryHoldEnd _ => true
  | .lostTimerExpiry => true
  | .runOnExpiry => true
  | .fillTimerExpiry => true
  | .endingFillExpiry => true
  | .tripInputLow => true
  | .tripInputHigh => true
  | .tripFilterSample _ => true

end Sys2Proof
end

