-- ==== Sys2Proof/Tests/Slice0.lean ====
section
/-! SUPPORT. The author's own tests: the worked figures of the manual, the checks of WellFormed, some single steps, and for each
statement with hypotheses a witness: a concrete state and operands that meet them, clause by clause, at the edges of their
ranges. Expected values are the manual's, or worked by hand from its rules. -/

namespace Sys2Proof.Tests

open Sys2Proof Sys2Proof.Machine

set_option maxRecDepth 100000

/-! ## A small bank -/

/-- A cell with a fresh sample of 2,200 mV at 25.0 °C, bound to this channel of the valve module 60h. -/
def cellAt (channel : Byte) : Cell :=
  { binding := some ⟨0x60, channel⟩, voltage := 2200, tHalf := 50, sampleSecond := some 0 }

/-- A fitted string of two cells in FLOAT. -/
def stringA : StringRec :=
  { cfg := { cellCount := 2, capacity := 100, level := 3, interval := 24, threshold := 1000, switch := 0x30, sensor := 0x40 }
    state := .float, presence := .present, censusStart := some 0, lastArrival := some 0
    cells := tset (tset (Vector.replicate 32 {}) 0 (cellAt 0)) 1 (cellAt 1) }

/-- A part with one string, a charger with 60 A, a gas sensor, a fan, and a module of every other role. -/
def bank : State :=
  { site := { bays := 2, charger := 0x20, budget := 600, gasSensor := 0x21, fan := 0x22 }
    sourceMap :=
      [{ addr := 0x20, role := .charger, pass := true }, { addr := 0x21, role := .gasSensor, pass := true },
       { addr := 0x22, role := .fan, pass := false }, { addr := 0x30, role := .switch, string := some 0, pass := true },
       { addr := 0x40, role := .stringSensor, string := some 0, pass := true },
       { addr := 0x50, role := .cellMonitor, string := some 0, block := some (0, 2), pass := false },
       { addr := 0x60, role := .valve, pass := true }, { addr := 0x70, role := .levelProbe, string := some 0, pass := true }]
    strings := tset (Vector.replicate 8 {}) 0 stringA
    water := { tank := 5000, reserve := 100 }
    gas := { sensor := .live } }

/-- The bank with this request at the head of MU's queue. -/
def asking (payload : List Byte) (s : State := bank) : State :=
  { s with mgmt := { s.mgmt with input := [⟨0x00, payload⟩] } }

/-- The bank with a job in bay 0: the string in this state, and this bay record. -/
def job (st : StringState) (r : Bay := {}) (s : State := bank) : State :=
  (s.setBay 0 { r with state := .busy, string := some 0, limit := 5000 }).modStr 0 fun x => { x with state := st, bay := some 0 }

/-- The bank with string 0 in this state. -/
def inState (st : StringState) (s : State := bank) : State := s.modStr 0 fun x => { x with state := st }

/-- The bank with a round of string 0 in hand. -/
def round (r : Round) (s : State := bank) : State :=
  (inState .watering s).modRound fun _ => { r with string := some 0 }

/-- A fill of the cell at position 0. -/
def fillOf (phase : FillPhase) : Fill := { pos := 0, addr := 0x60, channel := 0, volume := 150, maxOpen := 30, phase := phase }

def aFrame : Frame := mkFrame 0x31 0x00 0x20 [0x01]

/-- The bank with these many frames in a queue of a port, and its transmitter SENDING. -/
def queued (p : Port) (loc fwd : Nat) (s : State := bank) : State :=
  s.modPort p fun q => { q with sending := some aFrame, localQ := List.replicate loc aFrame, forwardQ := List.replicate fwd aFrame }

def waitingReply (restart : Bool) (s : State := bank) : State :=
  { s with mgmt := { s.mgmt with mu := .waiting aFrame restart } }

/-! ## Worked figures of the manual -/

/-- R2: the nine bytes 31h to 39h give the CRC 29B1h. -/
theorem test_crc_of_the_nine_digits :
    crcOf [0x31, 0x32, 0x33, 0x34, 0x35, 0x36, 0x37, 0x38, 0x39] = 0x29B1#16 := by decide

/-- R48. -/
theorem test_mean_temperature :
    meanTemp [66, 67, 68, 67] = 67 ∧ meanTemp [67, 68, 67, 68] = 68 ∧ meanTemp [-3, -2, -3, -2] = -2 := by decide

/-- R53. -/
theorem test_requested_limit :
    requestedLimit 10 10 = 1000 ∧ requestedLimit 3000 200 = 400000 ∧ requestedLimit 37 35 = 1200 ∧
      requestedLimit 250 50 = 12500 := by decide

/-- R54: whole at A = R, reduced at 2R = A, refused below that and below 1,000 mA. -/
theorem test_grant_limit :
    grantLimit 5000 5000 = some (5000, false) ∧ grantLimit 5000 2500 = some (2500, true) ∧ grantLimit 5000 2400 = none ∧
      grantLimit 1000 900 = none := by decide

/-- R56. -/
theorem test_window_mean :
    windowMean 2 4300 = none ∧ windowMean 3 6445 = some 2148 ∧ windowMean 3 (-202) = some (-67) ∧
      windowMean 90 193500 = some 2150 := by decide

/-- R57: the fresh cells needed. -/
theorem test_spread_threshold :
    [1, 2, 3, 4, 6, 12, 23, 24, 32].map spreadThreshold = [1, 2, 3, 3, 5, 9, 18, 18, 24] := by decide

/-- R59, R60, R61. -/
theorem test_debt_and_reduction :
    debt 172800000 336 = 16128 ∧ reduceQ 172800000 300 24 336 = 38871429 ∧ debt 38871429 336 = 3628 ∧
      reduceQ 172800000 1500 24 336 = 0 ∧ centiAh 4825000 = 134 := by decide

/-! ## The checks of WellFormed -/

theorem test_wf_refuses_a_long_payload : Instr.wf (.mgmtRequest 0x00 (List.replicate 41 0)) = false := by decide
theorem test_wf_refuses_an_invalid_destination : Instr.wf (.trunkFrameForward 0xF8 0x00 0x20 []) = false := by decide
theorem test_wf_refuses_a_refusal_to_no_field_module : Instr.wf (.heldAddressRefusal 0xF1 0x00 0x20 []) = false := by decide
theorem test_wf_refuses_a_refusal_of_no_command : Instr.wf (.heldAddressRefusal 0x30 0x00 0x30 []) = false := by decide
theorem test_wf_refuses_a_report_from_a_node : Instr.wf (.switchReport 0x00 0xF1 .float) = false := by decide
theorem test_wf_refuses_a_report_without_samples : Instr.wf (.cellReport 0x00 0x50 []) = false := by decide
theorem test_wf_refuses_five_samples : Instr.wf (.cellReport 0x00 0x50 (List.replicate 5 ⟨0, 0, 0⟩)) = false := by decide
theorem test_wf_admits : Instr.wf (.cellReport 0x00 0x50 [⟨0, 0, 0⟩]) = true ∧ Instr.wf (.mgmtRequest 0x00 []) = true := by
  decide

/-! ## Single steps -/

/-- The state after a command, when it answers one. -/
def after (c : Instr) (s : State) : State :=
  match exec c s with
  | .next t => t
  | _ => s

/-- R9, R12, R13: the OK reply to STATUS starts at once on an idle trunk port: 34 bytes of payload to the asker. -/
theorem test_status_replies :
    ((after .status (asking [0x0F, 0x00])).fp.trunk.sending.map fun f => (f.dst, f.src, f.kind, f.payload.length)) =
      some (0x00, 0xF0, 0x31, 34) := by decide

/-- R70, R75, R87: an accepted JOB_START in a free bank is granted in the same action: 100 Ah at 50 per mille is 5,000 mA. -/
theorem test_job_start_is_granted :
    ((after .jobStart (asking [0x04, 0x00, 0x00, 0x03])).bay 0).limit = 5000 ∧
      (after .jobStart (asking [0x04, 0x00, 0x00, 0x03])).requests = [] ∧
      (after .jobStart (asking [0x04, 0x00, 0x00, 0x03])).gas.fan = .on := by decide

/-- R8: a command to a held switch is refused with a REJECT. -/
theorem test_held_command_is_rejected :
    let s := { bank with holds := [⟨0x30, .switch 0⟩] }
    ((after (.heldAddressRefusal 0x30 0x00 0x20 [0x01]) s).fp.trunk.sending.map fun f => (f.kind, f.payload)) =
      some (0x32, [0x30, 0x20, 0x00]) ∧
    (after (.heldAddressRefusal 0x30 0x00 0x20 [0x01]) s).fp.chain.sending = none := by decide

/-- R117: two low samples leave the filter HIGH, the third trips. -/
theorem test_third_low_sample_trips :
    (after .tripInputLow (after .tripInputLow bank)).gas.state = .normal ∧
      (after .tripInputLow (after .tripInputLow (after .tripInputLow bank))).gas.state = .trip := by decide

/-- R33, R100: three samples at the OT limit end an equalise with cause THERMAL. -/
theorem test_third_hot_sample_ends_the_job :
    let hot := Instr.cellReport 0x00 0x50 [⟨2300, 100, 0⟩]
    ((after hot (after hot (after hot (job .equalising)))).bay 0).ended = some ⟨.abnormal, .thermal⟩ := by decide

/-- R6: a request in a frame reaches MU's queue. -/
theorem test_request_is_queued :
    (after (.mgmtRequest 0x00 [0x0E]) bank).mgmt.input = [⟨0x00, [0x0E]⟩] := by decide

/-- R37: 2,000 mA over the 20 s since the last report is 40,000 mA·s. -/
theorem test_string_report_counts_charge :
    ((after (.stringReport 0x00 0x40 2000 4800) { bank with clock := { second := 20 } }).str 0).q = 40000 := by decide

/-- R128, R136: a FULL report draws the tank down and counts at its cell. -/
theorem test_full_report :
    let s := round { state := .filling, fill := some (fillOf .outstanding) }
    (after (.valveReport 0x00 0x60 0x00 .full 120) s).water.tank = 4880 ∧
      ((after (.valveReport 0x00 0x60 0x00 .full 120) s).cell 0 0).dispensed = 120 ∧
      ((after (.valveReport 0x00 0x60 0x00 .full 120) s).str 0).state = .float := by decide

/-- R22, R176: a deletion that carries a string of 8 is BAD_RANGE; one with the absent markers is made. -/
theorem test_deletion_is_judged_for_range :
    ((after .tableWriteSourceMap (asking [0x01, 0x02, 0x70, 0x00, 0x08, 0xFF, 0x00, 0x00])).fp.trunk.sending.map (·.payload)) =
      some [0x01, 0x03] ∧
    (after .tableWriteSourceMap (asking [0x01, 0x02, 0x70, 0x00, 0xFF, 0xFF, 0x00, 0x00])).mapped 0x70 = none := by decide

/-- R39, R178: a sample timeout of 5 s written at second 100 leaves the limit at 120 s in that second and makes it 20 s in the
next. -/
theorem test_new_sample_timeout_counts_from_the_next_second :
    let s : State := { bank with clock := { second := 100 } }
    let written := after .tableWriteSite (asking ([0x01, 0x01] ++ siteBody { bank.site with sampleTimeout := 5 }) s)
    written.site.sampleTimeout = 5 ∧ written.silenceDue 0 = false ∧ written.tick.silenceDue 0 = true := by decide

/-- R81: a hold that ends in minute 9 keeps two minutes at a restart in minute 7; one that ends in minute 7 is gone. -/
theorem test_retry_hold_is_carried : carryHold 7 (some 9) = some 2 ∧ carryHold 7 (some 7) = none := by decide

/-- R151: with the charger at a lower address than the switch, the charger is taken first. -/
theorem test_lower_address_is_taken_first :
    ((queued .trunk 0 0 { bank with fp := { chain := { forwardQ := [mkFrame 0x30 0x00 0x20 [], mkFrame 0x20 0x01 0x21 []] } } }
      |>.takeTwo ⟨0x30, .switch 0⟩ ⟨0x20, .charger⟩).fp.trunk.localQ.map (·.dst)) = [0x01, 0x00] := by decide

/-! ## Witnesses: the clock, the frames and the queues -/

/-- A queue that is empty, with a command due and with none; the last second but one, and the last. -/
theorem witness_SecondStepsRunningTimers :
    (bank.pending = [] ∧ bank.dueCommand = none ∧ bank.second < 4294967294) ∧
    ({ bank with clock := { hourDue := true } } : State).dueCommand = some .hourTick ∧
    ({ bank with clock := { second := 4294967293 } } : State).second < 4294967294 ∧
    ({ bank with clock := { second := 4294967294 } } : State).second = 4294967294 ∧
    ((job .held { sample := .running 1, window := .paused 0 }).bay 0).sample = .running (0 + 1) ∧
    ((job .held { sample := .running 1, window := .paused 0 }).bay 0).window = .paused 0 ∧
    (bank.bay 1).confirm = .stopped := by decide

theorem witness_FrameReadBackByReceiver :
    (bank.fp.port .chain).rx = .hunt ∧ (List.replicate 40 (0xA5 : Byte)).length ≤ 40 ∧ ([] : List Byte).length ≤ 40 := by decide

/-- One sample and four; records at the ends of their ranges. -/
theorem witness_PayloadsReadBack :
    (1 ≤ [(⟨3000, 0xB0, 0⟩ : CellSample)].length ∧ (List.replicate 4 (⟨0, 127, 1⟩ : CellSample)).length ≤ 4) ∧
    bank.site.inRange = true ∧ ({} : Profile).inRange = true ∧
    (let x : StringConfig := { cellCount := 32, capacity := 3000, level := 7, interval := 8760, threshold := 200000 }
     x.cellCount ≤ 32 ∧ x.capacity ≤ 3000 ∧ x.level ≤ 7 ∧ x.interval ≤ 8760 ∧ x.threshold ≤ 200000) ∧
    (∀ e ∈ bank.sourceMap, (e.role.hasString = true ↔ e.string.isSome = true)) ∧
    (let c : Cell := { binding := some ⟨0x01, 7⟩, override := { volume := some 2000, maxOpen := some 1, duty := some 10 } }
     c.binding = some ⟨0x01, 7⟩ ∧ c.override.volume = some 2000) := by decide

theorem witness_TrunkFrameForwardedDown :
    (bank.fp.trunk.rx = .hunt ∧ isInvalidDst 0x30 = false ∧ (0x30 : Byte) ≠ bank.own ∧ bank.holderOf 0x30 = none ∧
      (queued .chain 0 15).fp.chain.forwardQ.length < 16) ∧
    ((queued .chain 0 16).fp.trunk.rx = .hunt ∧ (queued .chain 0 16).holderOf 0x30 = none ∧
      16 ≤ (queued .chain 0 16).fp.chain.forwardQ.length) := by decide

theorem witness_ManagementRequestQueued :
    (bank.fp.trunk.rx = .hunt ∧ bank.mgmt.input.length < 4) ∧
    (let s : State := { bank with mgmt := { input := List.replicate 4 ⟨0, []⟩ } }
     s.fp.trunk.rx = .hunt ∧ 4 ≤ s.mgmt.input.length) := by decide

theorem witness_HeldCommandRefused :
    let s : State := { bank with holds := [⟨0x30, .switch 0⟩] }
    isFieldAddr 0x30 = true ∧ isCommandKind 0x20 = true ∧ s.holderOf 0x30 = some (.switch 0) ∧ s.mgmt.mu = .idle ∧
      (queued .trunk 7 0 s).fp.trunk.localQ.length < 8 ∧ 8 ≤ (queued .trunk 8 0 s).fp.trunk.localQ.length ∧
      (queued .trunk 8 0 s).fp.trunk.rx = .hunt ∧ (waitingReply false s).mgmt.mu ≠ .idle := by decide

theorem witness_ChainFrameForwardedUp :
    (bank.fp.chain.rx = .hunt ∧ isInvalidDst 0x00 = false) ∧
    (isNodeAddr 0xF0 = true ∧ (queued .trunk 0 15).fp.trunk.forwardQ.length < 16) ∧
    16 ≤ (queued .trunk 0 16).fp.trunk.forwardQ.length ∧
    (isNodeAddr 0x99 = false ∧ bank.mapped 0x99 = none) ∧
    (bank.mapped 0x30).isSome = true ∧ (bank.mapped 0x30).map (·.pass) = some true ∧ roleKind .switch ≠ some 0x10 ∧
    (bank.mapped 0x50).map (·.pass) = some false ∧ roleKind .cellMonitor ≠ some 0x14 := by decide

theorem witness_BadFrameCounted :
    (bank.fp.port .trunk).rx = .hunt ∧ 40 < (41 : Byte).toNat ∧
    ((0x00 : Byte).toNat * 256 + (0x00 : Byte).toNat ≠ (crcOf (coveredBytes 0x01 0x00 0x20 [])).toNat) ∧
    isInvalidDst 0xF8 = true ∧ isInvalidDst 0xFE = true ∧ bank.own = 0xF0 ∧ (0x31 : Byte) ≠ 0x30 := by decide

theorem witness_LineErrorDropsPartFrame :
    ((bank.bytesIn .trunk []).fp.port .trunk).rx = .hunt ∧ ((bank.bytesIn .trunk [0xA5]).fp.port .trunk).rx ≠ .hunt := by
  decide

theorem witness_ArbiterChoosesFrame :
    (bank.fp.port .chain).sending = none ∧ (bank.fp.port .chain).localQ = [] ∧ (bank.fp.port .chain).forwardQ = [] ∧
    ((queued .chain 0 0).fp.port .chain).sending = some aFrame ∧ ((queued .chain 0 0).fp.port .chain).localQ = [] ∧
    ((queued .chain 1 1).fp.port .chain).localQ = [aFrame] ∧ ((queued .chain 1 1).fp.port .chain).mark = .forwardServed ∧
    ((queued .chain 0 1).fp.port .chain).forwardQ = [aFrame] ∧ ((queued .chain 0 1).fp.port .chain).localQ = [] := by decide

/-- The bank with this offer the only one waiting, and seven frames in the chain-local queue. -/
def offering (o : Offer) (s : State := bank) : State := { queued .chain 7 0 s with fp := { (queued .chain 7 0 s).fp with offers := [o] } }

theorem witness_OldestOfferTaken :
    let fill := round { state := .filling, fill := some (fillOf .offered) }
    let closing : State := { round { state := .filling } with water := { (round { state := .filling }).water with pendingClose := some ⟨0x60, 0⟩ } }
    ((offering ⟨.fan, .fan 0x22 true⟩).fp.offers = [⟨.fan, .fan 0x22 true⟩] ∧
      (offering ⟨.fan, .fan 0x22 true⟩).fp.chain.localQ.length < 8 ∧ (offering ⟨.fan, .fan 0x22 true⟩).evalDue = false) ∧
    (offering ⟨.watering, .valveOpen 0x60 0 200 40 30⟩ fill).water.round.fill = some (fillOf .offered) ∧
    (offering ⟨.watering, .valveClose 0x60 0⟩ closing).fp.offers = [⟨.watering, .valveClose 0x60 0⟩] ∧
    ((offering ⟨.bay 0, .switch 0x30 .float⟩ (job .transferBack)).bay 0).second = none ∧
    ((offering ⟨.bay 0, .chargerOff 0x20 0⟩ (job .transferBack { second := some (.switch 0x30 .float) })).bay 0).second =
      some (.switch 0x30 .float) ∧
    (offering ⟨.sweep 0, .sampleNow 0x50⟩).fp.offers = [⟨.sweep 0, .sampleNow 0x50⟩] := by decide

/-! ## Witnesses: management requests -/

theorem witness_ReplyTakenOrHeld :
    (queued .trunk 7 0).fp.trunk.localQ.length < 8 ∧ 8 ≤ (queued .trunk 8 0).fp.trunk.localQ.length ∧
    (waitingReply false (queued .trunk 7 0)).mgmt.mu = .waiting aFrame false ∧
    (waitingReply false (queued .trunk 7 0)).fp.trunk.localQ.length < 8 ∧
    8 ≤ (waitingReply false (queued .trunk 8 0)).fp.trunk.localQ.length ∧ bank.mgmt.mu = .idle := by decide

/-- Every request of the tests stands at the head of MU's queue. -/
theorem witness_AtHead (payload : List Byte) : AtHead (asking payload) 0x00 payload [] := ⟨rfl, rfl, rfl⟩

/-- The same in a state of one's own, with MU IDLE and no evaluation left due. -/
theorem witness_AtHead_in (payload : List Byte) (s : State) (idle : s.mgmt.mu = .idle) (settled : s.evalDue = false) :
    AtHead (asking payload s) 0x00 payload [] := ⟨idle, rfl, settled⟩

/-- A body out of range, one in conflict (a charger address that is no charger), the record as it stands, and one that changes
the fan and the gas sensor. -/
theorem witness_SiteRecordWritten :
    (siteBody bank.site).length = 23 ∧ (readSite (siteBody bank.site)).inRange = true ∧
    (readSite (siteBody { bank.site with bays := 3 })).inRange = false ∧
    (let x := readSite (siteBody { bank.site with charger := 0x30 })
     x.inRange = true ∧ x.charger ≠ 0 ∧ (bank.mapped x.charger).map (·.role) = some .switch) ∧
    (let x := readSite (siteBody { bank.site with fan := 0, gasSensor := 0 })
     x.inRange = true ∧ bank.siteConflict x = false ∧ x.fan ≠ bank.site.fan ∧ x.gasSensor ≠ bank.site.gasSensor) ∧
    (let x := readSite (siteBody bank.site)
     x.bays = bank.site.bays ∧ x.charger = bank.site.charger ∧ bank.busySum ≤ x.budget * 100 ∧
       (bank.mapped x.charger).map (·.role) = some .charger ∧ (bank.mapped x.gasSensor).map (·.role) = some .gasSensor ∧
       (bank.mapped x.fan).map (·.role) = some .fan ∧ x.gasSensor = bank.site.gasSensor ∧ x.fan = bank.site.fan) := by decide

theorem witness_GasSensorAddressChange :
    ({ bank.site with gasSensor := 0 } : Site).gasSensor ≠ bank.site.gasSensor ∧
    ({ bank.site with gasSensor := 0x23 } : Site).gasSensor ≠ bank.site.gasSensor ∧ (0x23 : Byte) ≠ 0 := by decide

/-- A deletion out of range, of nothing, in conflict and made; a role past the last; an entry out of range, amended, refused for
its string, for its role, for an overlap and for a sweep; one added, and a VALVE entry added while a round runs. -/
theorem witness_SourceMapEntryWritten :
    (isFieldAddr 0x00 = false ∧ isFieldAddr 0xF0 = false ∧ isFieldAddr 0x01 = true ∧ isFieldAddr 0xEF = true) ∧
    (bank.mapped 0x01 = none ∧ (bank.mapped 0x70).map (·.role) = some .levelProbe ∧ bank.stringNames 0x70 = false ∧
      bank.cellBinds 0x70 = false ∧ bank.holderOf 0x70 = none) ∧
    (bank.stringNames 0x30 = true ∧ bank.site.charger = 0x20 ∧ bank.cellBinds 0x60 = true) ∧
    ((bank.mapped 0x30).map (·.string) = some (some 0) ∧ (0x01 : Byte).toNat ≤ 7) ∧
    ((0x03 : Byte).toNat = roleCode .switch ∧ 8 < (0x09 : Byte).toNat ∧ (0x01 : Byte).toNat = roleCode .cellMonitor ∧
      (0x05 : Byte).toNat = roleCode .valve ∧ (0x06 : Byte).toNat = roleCode .levelProbe) ∧
    ((0x1F : Byte).toNat + (0x01 : Byte).toNat ≤ 32 ∧ ¬(0x1F : Byte).toNat + (0x02 : Byte).toNat ≤ 32) ∧
    (bank.overlapsMap { addr := 0x51, role := .cellMonitor, string := some 0, block := some (1, 2), pass := true } = true ∧
      bank.overlapsMap { addr := 0x51, role := .cellMonitor, string := some 0, block := some (2, 2), pass := true } = false) ∧
    ((bank.modStr 0 fun r => { r with sweep := .sweeping [] .stopped }).str 0).sweep ≠ .idle ∧
    bank.sourceMap.length < 64 ∧ 64 ≤ (List.replicate 64 ({ addr := 0x01, role := .fan, pass := true } : MapEntry)).length ∧
    (round { state := .filling }).water.round.state ≠ .idle := by decide

/-- Bodies out of range, in conflict, and accepted: one that unfits a position whose LEVEL qualifier is LOW, one that unfits the
string, one with another sensor, and one that fits a string. -/
theorem witness_StringRecordWritten :
    let other : State := { bank with sourceMap := bank.sourceMap ++
      [{ addr := 0x80, role := .stringSensor, string := some 0, pass := true },
       { addr := 0x31, role := .switch, string := some 1, pass := true },
       { addr := 0x41, role := .stringSensor, string := some 1, pass := true }] }
    let low : State := bank.modCell 0 1 fun c => { c with levelQ := { state := true, agree := 0 }, level := .low }
    let c (x : StringConfig) : StringConfig := readString (stringBody x)
    ((stringBody stringA.cfg).length = 13 ∧ c stringA.cfg = stringA.cfg ∧ natField (stringBody stringA.cfg) 3 1 ≤ 7) ∧
    ¬(c { stringA.cfg with level := 8 }).level ≤ 7 ∧ ¬(c { stringA.cfg with interval := 23 }).interval = 0 ∧
    bank.stringConflict 0 (c stringA.cfg) = false ∧ bank.stringConflict 0 (c { stringA.cfg with switch := 0x31 }) = true ∧
    (job .held).stringConflict 0 (c { stringA.cfg with cellCount := 0 }) = true ∧
    bank.stringConflict 0 (c { stringA.cfg with cellCount := 0, switch := 0, sensor := 0 }) = false ∧
    (low.stringConflict 0 (c { stringA.cfg with cellCount := 1 }) = false ∧ (low.cell 0 1).levelQ.state = true ∧
      (low.cell 0 0).level ≠ .low) ∧
    (other.stringConflict 0 (c { stringA.cfg with sensor := 0x80 }) = false ∧ (0x80 : Byte) ≠ (bank.str 0).cfg.sensor) ∧
    (other.stringConflict 1 (c { stringA.cfg with switch := 0x31, sensor := 0x41 }) = false ∧
      (other.str 1).cfg.cellCount = 0) ∧
    bank.requests = [] := by decide

theorem witness_CellRecordWritten :
    (cellBody (cellAt 0)).length = 7 ∧ cellBodyInRange (cellBody (cellAt 0)) = true ∧
    cellBodyInRange (cellBody { cellAt 0 with override := { duty := some 9 } }) = false ∧
    (readBinding (cellBody (cellAt 0)) = some ⟨0x60, 0⟩ ∧ (bank.mapped 0x60).map (·.role) = some .valve ∧
      bank.boundElsewhere 0 0 ⟨0x60, 0⟩ = false) ∧
    (readBinding (cellBody { cellAt 0 with binding := some ⟨0x20, 0⟩ }) = some ⟨0x20, 0⟩ ∧
      (bank.mapped 0x20).map (·.role) = some .charger) ∧
    (bank.cell 0 1).binding = some ⟨0x60, 1⟩ ∧ ¬((1 : Position) = 0) ∧
    (((round { state := .filling }).str 0).state = .watering ∧ none ≠ ((round { state := .filling }).cell 0 0).binding) := by
  decide

theorem witness_ProfileWritten :
    (profileBody {}).length = 29 ∧ (readProfile (profileBody {})).inRange = true ∧
    (readProfile (profileBody { window := 0 })).inRange = false ∧
    ((job .held).str 0).cfg.profile = 0 ∧ ((job .held).str 0).state = .held ∧
    (∀ i, (bank.str i).cfg.profile = 0 → (bank.str i).state ∈ [StringState.absent, .float, .isolated]) := by decide

theorem witness_RestoreSetsChargeAndAge :
    (2 ^ 40 - 1 < 2 ^ 40 ∧ 65535 < 2 ^ 16) ∧ (bank.str 0).state = .float ∧ (bank.str 1).state = .absent ∧
    ((job .held).str 0).state ≠ .absent ∧ ((job .held).str 0).state ≠ .float ∧ 8 ≤ (8 : Byte).toNat := by decide

theorem witness_JobStartRaises :
    (bank.str 1).state = .absent ∧ ((job .transferBack).str 0).state = .transferBack ∧
    ((round { state := .filling }).str 0).state = .watering ∧ (bank.str 0).state = .float ∧
    1 < (2 : Byte).toNat ∧ (0 : Byte).toNat < 1 ∧ 7 < (8 : Byte).toNat := by decide

def anEntry : Entry := { string := 0, kind := .equalise, sources := { management := true }, level := 3, arrival := 0 }

theorem witness_RaiseAddsOrMerges :
    (∀ e ∈ ([] : List Entry), ¬(e.string = 0 ∧ e.kind = .equalise)) ∧
    (∃ e ∈ [anEntry], e.string = 0 ∧ e.kind = .equalise) ∧
    ([{ anEntry with string := 1 }, anEntry][0]?).map (·.string) = some 1 := by decide

theorem witness_JobCancelRemovesAndCancels :
    let s (f : Option Fill) := round { state := .filling, fill := f }
    (¬∃ e ∈ bank.requests, e.string = 0 ∧ e.kind = .equalise) ∧
    (∃ e ∈ ({ bank with requests := [anEntry] } : State).requests, e.string = 0 ∧ e.kind = .equalise) ∧
    (((job .baseline).bay 0).string = some 0 ∧ ((job .baseline).str 0).state = .baseline) ∧
    (((s none).str 0).state = .watering ∧ (s none).water.round.state = .filling ∧ (s none).water.round.string = some 0 ∧
      (s none).water.round.fill = none ∧ (s (some (fillOf .offered))).water.round.fill = some (fillOf .offered) ∧
      (s (some (fillOf .outstanding))).water.round.fill = some (fillOf .outstanding)) ∧
    (s none).offerRoom = true ∧ (round { state := .filling } (queued .chain 8 0)).offerRoom = false := by decide

/-- A job in hand, of the shape `Working` asks for. -/
theorem witness_Working (st : StringState) (r : Bay) : Working (job st r) 0 0 st := ⟨rfl, rfl, rfl, rfl⟩

theorem witness_CeilingAndTankSet :
    7 < (8 : Byte).toNat ∧ (7 : Byte).toNat ≤ 7 ∧
    (∀ f, bank.water.round.fill = some f → f.phase = .offered → (f.volume : Int) ≤ (65535 : Int) - 0) ∧
    (let s := round { state := .filling, fill := some (fillOf .offered) }
     s.water.round.fill = some (fillOf .offered) ∧ (100 : Int) - 0 < (fillOf .offered).volume ∧
       s.water.round.string = some 0) := by
  refine ⟨by decide, by decide, fun f h => ?_, by decide⟩
  simp [bank] at h

def aResult (i : StringNo) : Result :=
  { string := i, cls := .changed, cause := .none, startMinute := 0, elapsed := 0, part := .presence .missing }

def results (n : Nat) (s : State := bank) : State := { s with mgmt := { s.mgmt with results := List.replicate n (aResult 0) } }

theorem witness_ResultsPostedAndFetched :
    (results 15).mgmt.results.length < 16 ∧ 16 ≤ (results 16).mgmt.results.length ∧
    (results 16).mgmt.results = aResult 0 :: aResult 0 :: List.replicate 14 (aResult 0) ∧
    (queued .trunk 7 0).fp.trunk.localQ.length < 8 ∧ (queued .trunk 7 0).mgmt.mu = .idle ∧
    8 ≤ (queued .trunk 8 0).fp.trunk.localQ.length ∧ (waitingReply false).mgmt.mu ≠ .idle ∧
    (asking [0x08]).mgmt.results = [] ∧ (asking [0x08] (results 1)).mgmt.results = [aResult 0] := by decide

/-- The latch of string 0 FULL. -/
def latched (s : State := bank) : State :=
  { s with mgmt := { s.mgmt with latches := tset s.mgmt.latches 0 (some (s.snapshotOf 0)) } }

theorem witness_SnapshotsLatchAndRead :
    (bank.str 1).state = .absent ∧ (bank.str 0).state ≠ .absent ∧ bank.mgmt.latches[(0 : StringNo)] = none ∧
    latched.mgmt.latches[(0 : StringNo)] ≠ none ∧ bank.freshCells 0 ≠ [] ∧
    ({ bank with clock := { second := 61 } } : State).freshCells 0 = [] := by decide

theorem witness_SurveyAnswersMatches :
    criterionOf (0 : Byte).toNat = some .voltAtLeast ∧ criterionOf (5 : Byte).toNat = some .valveFault ∧ 5 < (6 : Byte).toNat ∧
    (bank.str 0).cfg.cellCount ≠ 0 ∧ (bank.str 1).cfg.cellCount = 0 := by decide

theorem witness_SweepRequestStartsSweep :
    let monitors (s : State) := (s.sourceMap.filter fun e => e.role = .cellMonitor && e.string = some 0).map (·.addr)
    (bank.str 0).sweep = .idle ∧ monitors bank ≠ [] ∧ monitors { bank with sourceMap := [] } = [] ∧
    ((bank.modStr 0 fun r => { r with sweep := .sweeping [⟨0x50, false⟩] (.running 5) }).str 0).sweep ≠ .idle := by decide

/-- String 0 ISOLATED with bay 0 BLOCKED, bay 1 FREE. -/
def blocked (s : State := bank) : State :=
  (s.setBay 0 { state := .blocked, string := some 0 }).modStr 0 fun x => { x with state := .isolated, bay := some 0 }

theorem witness_ReleaseFreesBlockedBay :
    (blocked.str 0).state = .isolated ∧ (blocked.str 0).bay = some 0 ∧ blocked.fp.offers = [] ∧
    (bank.str 0).state ≠ .isolated ∧ (∀ c, c ≠ 0 → (blocked.bay c).state = .free) ∧
    ¬(∀ c, c ≠ 0 → ((blocked.setBay 1 { state := .busy, string := some 1 }).bay c).state = .free) := by decide

theorem witness_ClearTripLeavesTrip :
    bank.gas.state ≠ .trip ∧
    (let trip (ss : SensorState) (q : Bool) : State := { bank with gas := { state := .trip, sensor := ss, qualifier := { state := q } } }
     (trip .none false).gas.state = .trip ∧ (trip .none false).gas.filter = .high ∧ (trip .live true).gas.qualifier.state = true ∧
       (trip .live false).gas.qualifier.state = false ∧ (trip .lost true).gas.sensor = .lost) ∧
    ({ bank with gas := { state := .trip, filter := .low } } : State).gas.filter = .low := by decide

theorem witness_StatusReportsAndClears : 1 < (2 : Byte).toNat := by decide

theorem witness_UnknownRequestRefused :
    (0x10 < (0x11 : Byte).toNat) ∧
    ((0x03 : Byte), ([] : List Byte).length) ∉ [((0x03 : Byte), 8), (0x04, 3)] ∧ (0x03 : Byte) ≠ 0x01 ∧ (0x03 : Byte) ≠ 0x02 ∧
    ((0x01 : Byte), (List.replicate 22 (0 : Byte)).length) ∉ [((0x01 : Byte), 23), (0x02, 6)] ∧
    ((0x06 : Byte), 1) ∉ [((0x01 : Byte), 1), (0x02, 2), (0x03, 2), (0x04, 3), (0x05, 2)] := by decide

/-- A slot free and none; a retry hold before and at its end; a job in each state, with the chain idle and full; a blocked bay, a
settling string, and a round in each of its shapes. -/
theorem witness_WarmRestartEffects :
    let at7 (s : State) := waitingReply true (queued .trunk 7 0 s)
    let holding (m : Nat) : State := ({ bank with clock := { second := 60 } } : State).modStr 0 fun r => { r with retryHold := some m }
    let blocked : State := (bank.setBay 0 { state := .blocked, string := some 0 }).modStr 0 fun r =>
      { r with state := .isolated, bay := some 0 }
    (asking [0x10]).fp.trunk.localQ.length < 8 ∧ 8 ≤ (asking [0x10] (queued .trunk 8 0)).fp.trunk.localQ.length ∧
    ((at7 bank).mgmt.mu = .waiting aFrame true ∧ (at7 bank).fp.trunk.localQ.length < 8 ∧
      8 ≤ (waitingReply true (queued .trunk 8 0)).fp.trunk.localQ.length) ∧
    ((bank.str 0).cfg.cellCount ≠ 0 ∧ (bank.str 0).retryHold = none ∧ ((holding 2).str 0).retryHold = some 2 ∧
      (holding 2).minute < 2 ∧ 1 ≤ (holding 1).minute) ∧
    (((job .baseline).bay 0).string = some 0 ∧ (∀ c, c ≠ 0 → ((job .baseline).bay c).string ≠ some 0) ∧
      (job .baseline).water.round.string ≠ some 0 ∧ (∀ c, c ≠ 0 → ((job .baseline).bay c).state = .free)) ∧
    ((at7 (job .held {} (queued .chain 0 0))).fp.offers = [] ∧ (at7 (job .held {} (queued .chain 0 0))).fp.chain.localQ = [] ∧
      (at7 (job .held {} (queued .chain 0 0))).fp.chain.sending ≠ none ∧
      8 ≤ (at7 (job .held {} (queued .chain 8 0))).fp.chain.localQ.length) ∧
    ((blocked.bay 0).state = .blocked ∧ (blocked.bay 0).string = some 0 ∧ (blocked.str 0).state = .isolated) ∧
    (((inState .settling).str 0).state = .settling ∧ ∀ b, ((inState .settling).bay b).string ≠ some 0) ∧
    (∀ b i, (bank.bay b).string = some i → (bank.str i).state ≠ .baseline) ∧
    (let s (st : RoundState) (f : Option Fill) := at7 (round { state := st, fill := f, ended := some ⟨.abnormal, .cancelled⟩ })
     (s .ending (some (fillOf .outstanding))).water.round.state = .ending ∧
       (s .ending (some (fillOf .outstanding))).water.round.string = some 0 ∧ (s .filling none).water.round.fill = none ∧
       (s .filling (some (fillOf .offered))).water.round.fill = some (fillOf .offered)) := by decide

/-! ## Witnesses: strings and jobs -/

/-- String 0 with an interval that has run out, a spread above its trigger, and a debt above its threshold. -/
def dueString : State :=
  { bank with clock := { hourDue := true } }.modStr 0 fun r =>
    { r with age := 23, q := 2 ^ 30, cells := tset r.cells 0 { cellAt 0 with voltage := 2300 } }

theorem witness_HourTickRaises :
    dueString.clock.hourDue = true ∧ dueString.evalDue = false ∧
    (let r := dueString.str 0
     r.cfg.cellCount ≠ 0 ∧ r.cfg.level ≠ 0 ∧ r.cfg.interval ≠ 0 ∧ r.cfg.interval ≤ min (r.age + 1) 65535 ∧ r.retryHold = none ∧
       r.state = .float ∧ (dueString.profile 0).spreadTrigger ≠ 0 ∧ dueString.spreadOf 0 = some 100 ∧
       (dueString.profile 0).spreadTrigger < 100 ∧ r.cfg.threshold ≠ 0 ∧
       r.cfg.threshold ≤ r.q * (dueString.profile 0).gassing / 3600000) := by decide

theorem witness_StringMomentsArrive :
    (let s := ({ bank with clock := { second := 60 } } : State).modStr 0 fun r => { r with retryHold := some 1 }
     (s.str 0).retryHold = some 1 ∧ 1 ≤ s.minute ∧ s.evalDue = false) ∧
    (let s := ({ bank with clock := { second := 59 } } : State).modStr 0 fun r => { r with retryHold := some 1 }
     s.minute < 1) ∧
    (let s := bank.modStr 0 fun r => { r with state := .settling, settle := .running 0 }
     (s.str 0).state = .settling ∧ (s.str 0).settle = .running 0) ∧
    (let s (n : Nat) := ({ bank with clock := { second := n } } : State).modStr 0 fun r => { r with presence := .unknown }
     ((s 60).str 0).presence = .unknown ∧ ((s 60).str 0).censusStart = some 0 ∧ 0 + 60 ≤ (s 60).second ∧ (s 59).second < 0 + 60) ∧
    (let s (n : Nat) : State := { bank with clock := { second := n } }
     ((s 121).str 0).presence = .present ∧ ((s 121).str 0).lastArrival = some 0 ∧
       4 * (s 121).silenceTimeout < (s 121).second - 0 ∧ (s 120).second - 0 ≤ 4 * (s 120).silenceTimeout) := by decide

/-- The string of a job in this state, with a sweep that times out while the monitor 50h is owed. -/
def sweeping (st : StringState) : State :=
  (job st).modStr 0 fun r => { r with sweep := .sweeping [⟨0x50, true⟩] (.running 0) }

theorem witness_SweepTimesOut :
    ((sweeping .held).str 0).sweep = .sweeping [⟨0x50, true⟩] (.running 0) ∧ (sweeping .held).evalDue = false ∧
    (bank.mapped 0x50).map (·.block) = some (some (0, 2)) ∧ ((sweeping .held).str 0).state ≠ .baseline ∧
    ((sweeping .baseline).str 0).state = .baseline ∧ ((sweeping .baseline).bay 0).string = some 0 ∧
    ((sweeping .baseline).str 0).bay = some 0 ∧ ((sweeping .baseline).bay 0).state = .busy ∧
    (sweeping .baseline).fp.offers = [] ∧ (sweeping .baseline).fp.chain.localQ.length < 7 := by decide

theorem witness_ExpiryEndsJob :
    (job .transferOut { confirm := .running 0 }).evalDue = false ∧
    ((job .transferOut { confirm := .running 0 }).bay 0).confirm = .running 0 ∧
    ((job .equalising { sample := .running 0, duration := .running 0 }).bay 0).sample = .running 0 ∧
    ((job .equalising { sample := .running 0, duration := .running 0 }).bay 0).duration = .running 0 ∧
    ((job .held { hold := .running 0 }).bay 0).hold = .running 0 ∧ (job .held).fp.offers = [] ∧
    (job .held {} (queued .chain 6 0)).fp.chain.localQ.length < 7 ∧ 8 ≤ (job .held {} (queued .chain 8 0)).fp.chain.localQ.length ∧
    ((job .held).bay 0).confirm ≠ .running 0 ∧ ((job .held).bay 0).sample ≠ .running 0 ∧
    ((job .held).bay 0).duration ≠ .running 0 ∧ ((job .held).bay 0).hold ≠ .running 0 ∧
    (0x20 : Byte) = (job .held).site.charger ∧ ((job .held).bay 1).state ≠ .busy ∧ ((0 : BayNo).val = 0) ∧
    StringState.transferBack ∉ [StringState.baseline, .transferOut, .equalising, .held] := by decide

/-- Room for both commands, for one of them, and for none; the bay's own offer waiting, and another's. -/
theorem witness_FailedSwitchIsolates :
    let s := job .transferBack { confirm := .running 0, ended := some ⟨.complete, .plateau⟩ }
    (s.bay 0).ended = some ⟨.complete, .plateau⟩ ∧ (s.bay 0).confirm = .running 0 ∧ s.evalDue = false ∧
    (bank.mapped 0x30).bind (·.string) = some 0 ∧ (s.str 0).cfg.switch = 0x30 ∧
    (job .baseline).str 0 = { (job .baseline).str 0 with state := .baseline } ∧ ((job .held).bay 0).confirm ≠ .running 0 ∧
    ((offering ⟨.bay 0, .chargerOff 0x20 0⟩).fp.offers.filter (·.activity ≠ .bay 0) = [] ∧
      (offering ⟨.fan, .fan 0x22 true⟩).fp.offers.filter (·.activity ≠ .bay 0) ≠ []) ∧
    ((queued .chain 7 0).fp.chain.localQ.length < 8 ∧
      8 ≤ ((queued .chain 7 0).fp.chain.pushLocal (cmdFrame 0xF0 (.chargerOff 0x20 0))).localQ.length) ∧
    (bank.fp.chain.pushLocal (cmdFrame 0xF0 (.chargerOff 0x20 0))).localQ.length < 8 ∧
    8 ≤ (queued .chain 8 0).fp.chain.localQ.length := by decide

theorem witness_SwitchReportConfirms :
    let out (g : GasState) : State := { job .transferOut { confirm := .running 3 } with gas := { bank.gas with state := g } }
    ((out .normal).bay 0).confirm = .running 3 ∧ (out .normal).gas.state ≠ .trip ∧ (out .hold).gas.state = .hold ∧
    ((job .transferBack { confirm := .running 0, ended := some ⟨.abnormal, .gas⟩ }).bay 0).ended = some ⟨.abnormal, .gas⟩ ∧
    ((job .transferBack).profile 0).settle ≠ 0 ∧ (0x31 : Byte) ≠ ((job .transferBack).str 0).cfg.switch ∧
    SwitchCode.moving ≠ .fault := by decide

/-- A window of three reports that carry 6,445 mA in all, after this previous mean and plateau count. -/
def window (count plateau : Nat) (prev : Option Int) : State :=
  job .equalising { window := .running 0, count := count, sum := 6445, prevMean := prev, plateau := plateau }

theorem witness_WindowJudged :
    ((window 2 0 none).bay 0).window = .running 0 ∧ (window 2 0 none).evalDue = false ∧
    ((window 2 0 none).bay 0).count < 3 ∧ ((window 2 0 none).bay 0).plateau < ((window 2 0 none).profile 0).plateauRequired ∧
    3 ≤ ((window 3 2 (some 2100)).bay 0).count ∧ (window 3 2 (some 2100)).spreadOf 0 = some 0 ∧
    ((2148 : Int) - 2100).natAbs ≤ ((window 3 2 (some 2100)).profile 0).tolerance ∧
    ((window 3 2 (some 2100)).profile 0).plateauRequired ≤ 2 + 1 ∧ 0 + 1 < ((window 3 0 (some 2100)).profile 0).plateauRequired ∧
    ((window 3 0 (some 2000)).profile 0).tolerance < ((2148 : Int) - 2000).natAbs ∧
    ((window 3 0 none).bay 0).prevMean = none := by decide

/-! ## Witnesses: gas and watering -/

theorem witness_GasTimersExpire :
    let silent (g : GasState) : State := { bank with gas := { bank.gas with state := g, lost := .running 0 } }
    let fan (s : State) : State := { s with gas := { s.gas with fan := .runOn, runOn := .running 0 } }
    (silent .normal).gas.sensor = .live ∧ (silent .normal).gas.lost = .running 0 ∧ (silent .normal).evalDue = false ∧
    (silent .hold).gas.state = .hold ∧ (silent .trip).gas.state = .trip ∧ bank.gas.lost ≠ .running 0 ∧
    (fan bank).gas.fan = .runOn ∧ (fan bank).gas.runOn = .running 0 ∧
    (fan bank).fp.offers.filter (·.activity ≠ .fan) = [] ∧ (fan (queued .chain 7 0)).fp.chain.localQ.length < 8 ∧
    8 ≤ (fan (queued .chain 8 0)).fp.chain.localQ.length ∧ bank.gas.runOn ≠ .running 0 ∧
    (offering ⟨.watering, .valveClose 0x60 0⟩).fp.offers.filter (·.activity ≠ .fan) ≠ [] ∧
    (bank.site.fan ≠ 0 ∧ bank.site.runOn ≠ 0 ∧ bank.gas.bayStrings = 0 ∧ bank.gas.state = .normal ∧ bank.gas.fan = .off) ∧
    (let g : Gas := { bank.gas with bayStrings := 1, fan := .on }
     (0 < g.bayStrings ∧ ¬0 < g.bayStrings - 1) ∧ g.fan = .on) ∧
    (({ bank with site := { bank.site with fan := 0, runOn := 0 } } : State).site.fan = 0 ∧ (silent .hold).gas.state ≠ .normal) := by
  decide

theorem witness_TripFilterFlips :
    let at2 (level : PinLevel) (s : State) : State := { s with gas := { s.gas with filter := level, filterAgree := 2 } }
    PinLevel.high = bank.gas.filter ∧ PinLevel.low ≠ bank.gas.filter ∧ bank.gas.filterAgree < 2 ∧
    (at2 .low bank).gas.filter = .low ∧ (at2 .low bank).gas.filterAgree = 2 ∧ (at2 .high bank).gas.filter = .high ∧
    (at2 .high (job .held)).gas.state ≠ .trip ∧ (at2 .high (job .held)).evalDue = false ∧
    (∀ c, c ≠ 0 → ((at2 .high (job .held)).bay c).string ≠ some 0) := by decide

theorem witness_GasReportJudged :
    let lost (g : GasState) : State := { bank with gas := { bank.gas with state := g, sensor := .lost } }
    (0x21 : Byte) = bank.site.gasSensor ∧ bank.site.gasSensor ≠ 0 ∧ (0x23 : Byte) ≠ bank.site.gasSensor ∧
    bank.site.holdThreshold ≤ 200 ∧ (100 ≤ bank.site.releaseThreshold) ∧ (lost .hold).gas.sensor = .lost ∧
    (({ state := false, agree := 2 } : Qualifier).advance true).state = true ∧
    (({ state := true, agree := 2 } : Qualifier).advance false).state = false ∧ bank.gas.bayStrings = 0 ∧
    bank.gas.fan = .off ∧ 0 < bank.site.runOn := by decide

theorem witness_NextFillStep :
    let w (l : List Position) (f : List Faulted) (s : State := bank) := round { state := .filling, fillList := l, faulted := f } s
    let dry : State := { bank with water := { tank := 249, reserve := 100 } }
    (w [] []).water.round.state = .filling ∧ (w [] []).water.round.fill = none ∧ (w [] []).water.pendingClose = none ∧
    (w [] []).water.round.string = some 0 ∧ (round { state := .filling, build := some .full }).water.round.build = some .full ∧
    (w [] [⟨0, .notFull⟩]).water.round.faulted ≠ [] ∧
    ((w [0] [] dry).water.tank : Int) - (w [0] [] dry).water.reserve < 150 ∧
    ((w [0] []).cell 0 0).binding = some ⟨0x60, 0⟩ ∧ (w [0] []).offerRoom = true ∧
    (w [0] [] (queued .chain 8 0)).offerRoom = false := by decide

theorem witness_ValveReportTaken :
    let s (ph : FillPhase) := round { state := .filling, fill := some (fillOf ph), attempts := Vector.replicate 32 3 }
    7 < (8 : Byte).toNat ∧ (7 : Byte).toNat ≤ 7 ∧ bank.water.round.fill = none ∧
    (s .outstanding).water.round.state = .filling ∧ (s .outstanding).water.round.string = some 0 ∧
    (s .outstanding).water.round.fill = some (fillOf .outstanding) ∧ (fillOf .outstanding).addr = 0x60 ∧
    (0 : Position).val < ((s .outstanding).str 0).cfg.cellCount ∧ 3 ≤ (s .outstanding).water.round.attempts[(0 : Position)] := by
  decide

theorem witness_FillTimersExpire :
    let s (st : RoundState) (u : State := bank) :=
      round { state := st, fill := some (fillOf .outstanding), fillTimer := .running 0, ended := some ⟨.abnormal, .cancelled⟩ } u
    (s .filling).water.round.fill = some (fillOf .outstanding) ∧ (s .filling).water.round.string = some 0 ∧
    (s .filling).evalDue = false ∧ (s .filling).water.round.fillTimer = .running 0 ∧ (s .filling).offerRoom = true ∧
    (s .filling (queued .chain 8 0)).offerRoom = false ∧ (s .ending).water.round.state = .ending ∧
    (s .ending).water.round.ended = some ⟨.abnormal, .cancelled⟩ ∧ (s .ending).requests = [] ∧
    (round { state := .filling, fill := some (fillOf .outstanding) }).water.round.fillTimer ≠ .running 0 := by decide

/-! ## Witnesses: reports, requests and the invariants -/

theorem witness_ReportArrives :
    (∃ e, ReportArrives bank 0x00 0x50 e .cellMonitor) ∧ (∃ e, ReportArrives bank 0x00 0x40 e .stringSensor) ∧
    (∃ e, ReportArrives bank 0x00 0x70 e .levelProbe) ∧ (∃ e, ReportArrives bank 0x00 0x60 e .valve) ∧
    (∃ e, ReportArrives bank 0x00 0x30 e .switch) ∧ (∃ e, ReportArrives bank 0x00 0x20 e .charger) ∧
    ∃ e, ReportArrives bank 0xFF 0x21 e .gasSensor :=
  ⟨⟨_, rfl, rfl, rfl, rfl, rfl, rfl⟩, ⟨_, rfl, rfl, rfl, rfl, rfl, rfl⟩, ⟨_, rfl, rfl, rfl, rfl, rfl, rfl⟩,
    ⟨_, rfl, rfl, rfl, rfl, rfl, rfl⟩, ⟨_, rfl, rfl, rfl, rfl, rfl, rfl⟩, ⟨_, rfl, rfl, rfl, rfl, rfl, rfl⟩,
    ⟨_, rfl, rfl, rfl, rfl, rfl, rfl⟩⟩

/-- A good sample at each bound of R28, one just past each, and qualifiers one sample short of a flip; a report that flips OV or
OT, one that flips nothing, and the readings of a probe. -/
theorem witness_CellSamplesWritten :
    let ripe : State := (job .equalising).modCell 0 0 fun c => { c with ov := { agree := 2 }, ot := { agree := 2 } }
    let hot : State := (job .baseline).modCell 0 0 fun c => { c with ot := { state := true, agree := 2 } }
    let applied (s : State) (x : CellSample) := s.applySamples 0 0 ([x].take 2)
    30 + [(⟨3000, 0xB0, 0⟩ : CellSample), ⟨3001, 127, 0⟩].length ≤ 32 ∧
    [(⟨3000, 0xB0, 0⟩ : CellSample), ⟨3001, 127, 0⟩][30 - 30]? = some ⟨3000, 0xB0, 0⟩ ∧
    ¬(3000 < (3000 : BitVec 16).toNat ∨ (0xB0 : Byte).toInt < -80 ∨ 170 < (0xB0 : Byte).toInt ∨ (0 : Byte).getLsbD 0 = true) ∧
    3000 < (3001 : BitVec 16).toNat ∧ ((job .held).str 0).state = .held ∧
    (true ≠ ({ agree := 2 } : Qualifier).state) ∧ (true ≠ (cellAt 0).levelQ.state ∧ (cellAt 0).levelQ.agree < 2) ∧
    (cellAt 0).level = .unknown ∧ (bank.mapped 0x50).bind (·.block) = some (0, 2) ∧
    (((applied ripe ⟨2600, 40, 0⟩).cell 0 0).ov.state = true ∧ ((applied ripe ⟨2599, 100, 0⟩).cell 0 0).ot.state = true ∧
      ((applied ripe ⟨2599, 100, 0⟩).cell 0 0).ov.state = false ∧ ((applied hot ⟨2200, 99, 0⟩).cell 0 0).ot.state = false ∧
      ((applied bank ⟨2200, 99, 0⟩).cell 0 0).ot.state = false) ∧
    ((sweeping .baseline).str 0).sweep = .sweeping [⟨0x50, true⟩] (.running 0) ∧
    ([(⟨0x50, true⟩ : Owed), ⟨0x51, false⟩].filter (·.addr ≠ 0x50)) ≠ [] ∧ (bank.str 0).sweep = .idle ∧
    ((bank.mapped 0x70).bind (·.string) = some 0 ∧ (bank.str 0).cfg.cellCount ≤ 2 ∧ (1 : Position).val < (bank.str 0).cfg.cellCount ∧
      (bank.str 0).cfg.level ≠ 0) ∧
    (({ levelQ := { agree := 2 }, level := .fault } : Cell).takeLevel true).level ≠ .fault := by decide

theorem witness_StringReportIntegrated :
    (bank.mapped 0x40).bind (·.string) = some 0 ∧ (bank.str 0).cfg.cellCount ≠ 0 ∧ (bank.str 0).cfg.sensor = 0x40 ∧
    (bank.str 1).cfg.cellCount = 0 ∧ (bank.str 0).presence = .present ∧
    ((bank.modStr 0 fun r => { r with presence := .missing }).str 0).presence ≠ .present ∧ (bank.str 0).bay = none ∧
    ((job .equalising { count := 65534 }).bay 0).count < 65535 := by decide

/-- The bank with one entry listed that a grant can meet. -/
def listed : State := { bank with requests := [anEntry] }

/-- No entry that can be granted, one of each kind, and one bay in use. -/
theorem witness_EvaluationGrants :
    let wet : Entry := { string := 0, kind := .watering, sources := { debt := true }, level := 3, arrival := 0 }
    let watering : State := { bank with requests := [wet] }
    (∀ e ∈ bank.requests, bank.equaliseGrant e = none ∧ bank.wateringEligible e = false) ∧
    listed.equaliseGrant anEntry = some (0, 5000, false) ∧
    pick (listed.requests.filter fun x => (listed.equaliseGrant x).isSome) = some anEntry ∧
    pick (bank.requests.filter fun x => (bank.equaliseGrant x).isSome) = none ∧
    ({ bank.site with bays := 1 } : Site).bays ≠ 2 ∧ ((job .held).bay 0).state ≠ .free ∧
    (∀ x ∈ listed.requests, x.string ≠ 1) ∧ pick [anEntry, wet] = some anEntry ∧
    watering.fillListFor 0 (buildOf wet.sources) = [0, 1] ∧ watering.wateringEligible wet = true ∧
    pick (watering.requests.filter watering.wateringEligible) = some wet ∧
    pick (bank.requests.filter bank.wateringEligible) = none := by decide

theorem witness_HoldsTakenAndReleased :
    let s := queued .trunk 0 0 (queued .chain 0 2)
    s.holderOf 0x31 = none ∧ ({ s with holds := [⟨0x31, .charger⟩] } : State).holderOf 0x31 ≠ none ∧
    (s.fp.chain.forwardQ.filter fun f => f.dst = 0x31).length = 2 ∧ s.fp.trunk.sending = some aFrame ∧ s.mgmt.mu = .idle ∧
    s.fp.trunk.localQ.length + 2 ≤ 8 ∧ (s.fp.chain.forwardQ.filter fun f => f.dst = 0x32) = [] ∧
    bank.site.charger.toNat < (bank.str 0).cfg.switch.toNat ∧ (0x10 : Byte).toNat ≤ bank.site.charger.toNat := by decide

theorem witness_CurrentLimitGranted :
    1000 ≤ 10 * 100 ∧ 2000 * 200 ≤ 400000 ∧ 10 * 10 ≤ 1000 ∧ 400000 ≤ 3000 * 200 ∧
    requestedLimit (bank.str 0).cfg.capacity (bank.profile 0).rate = 5000 ∧ bank.site.budget * 100 - bank.busySum = 60000 := by
  decide

theorem witness_FiguresRoundAsStated :
    (0 : Int) < 1 ∧ ({} : Profile).clampMin ≤ ({} : Profile).clampMax ∧ ({} : Profile).clampMin < cellVoltage {} 50 ∧
    cellVoltage {} 50 < ({} : Profile).clampMax ∧ 2 < 3 ∧ 0 < ({} : Profile).gassing := by decide

/-- A job in hand with an entry and a hold listed and full queues: it meets the premises of every invariant, and it steps. -/
def busy : State := { job .held {} (queued .chain 8 16) with requests := [{ anEntry with kind := .watering }], holds := [⟨0x30, .switch 0⟩] }

theorem witness_StepKeepsQueuesAndLists :
    WithinCapacity busy ∧ OneEntryPerPair busy ∧ OneHoldPerAddress busy ∧ AgreeCountsInRange busy ∧ ∃ t, step busy = .next t :=
  ⟨⟨by decide, by decide, by decide, by decide, by decide, by decide⟩, List.pairwise_singleton _ _, List.pairwise_singleton _ _,
    ⟨by decide, by decide, by decide, by decide, by decide⟩, _, rfl⟩

theorem witness_StepKeepsBudget : WithinBudget busy ∧ ∃ t, step busy = .next t :=
  ⟨by unfold WithinBudget; decide, _, rfl⟩

theorem witness_StepKeepsStatAndEvaluations : StatDriven busy ∧ NoEvaluationDue busy ∧ ∃ t, step busy = .next t :=
  ⟨by unfold StatDriven; decide, rfl, _, rfl⟩

theorem witness_StepKeepsBaysLinked : BaysLinked busy ∧ ∃ t, step busy = .next t :=
  ⟨⟨by decide, by decide, by decide, by decide, by decide, by decide, by decide, by decide⟩, _, rfl⟩

end Sys2Proof.Tests
end

section
/-! PROOF. The answers of the Arithmetic Unit (R46 to R61): one lemma for each case of its limits and grants, and the bounds
of each of its roundings. -/

namespace Sys2Proof.Machine

open Sys2Proof

/-! ## Requested limit and grant (R53, R54) -/

theorem requestedLimit_mod_hundred (capacity rate : Nat) : requestedLimit capacity rate % 100 = 0 :=
  Nat.mul_mod_left _ 100

theorem le_requestedLimit (capacity rate : Nat) : 1000 ≤ requestedLimit capacity rate := by
  have hclamp : 1000 ≤ min 400000 (max 1000 (capacity * rate)) := le_min (by decide) (le_max_left _ _)
  exact Nat.mul_le_mul_right 100 (Nat.div_le_div_right (c := 100) hclamp)

theorem requestedLimit_le (capacity rate : Nat) : requestedLimit capacity rate ≤ 400000 :=
  (Nat.div_mul_le_self _ 100).trans (min_le_left _ _)

/-- Inside the clamp the limit is the product itself, down to 100 mA; the clamp comes before the rounding, and both bounds
are multiples of 100 mA. -/
theorem requestedLimit_of_mem {capacity rate : Nat} (hlo : 1000 ≤ capacity * rate) (hhi : capacity * rate ≤ 400000) :
    requestedLimit capacity rate = capacity * rate / 100 * 100 := by
  rw [requestedLimit, max_eq_right hlo, min_eq_right hhi]

theorem requestedLimit_of_le {capacity rate : Nat} (h : capacity * rate ≤ 1000) : requestedLimit capacity rate = 1000 := by
  rw [requestedLimit, max_eq_left h, min_eq_right (by decide)]

theorem requestedLimit_of_ge {capacity rate : Nat} (h : 400000 ≤ capacity * rate) :
    requestedLimit capacity rate = 400000 := by
  rw [requestedLimit, min_eq_left (h.trans (le_max_right _ _))]

theorem grantLimit_whole {a r : Nat} (h : a ≤ r) : grantLimit a r = some (a, false) := if_pos h

theorem grantLimit_reduced {a r : Nat} (hshort : r < a) (hhalf : a ≤ 2 * r) (hmin : 1000 ≤ r) :
    grantLimit a r = some (r / 100 * 100, true) := by
  rw [grantLimit, if_neg hshort.not_ge, if_pos ⟨hhalf, hmin⟩]

theorem grantLimit_eq_none {a r : Nat} (hshort : r < a) (h : 2 * r < a ∨ r < 1000) : grantLimit a r = none := by
  rw [grantLimit, if_neg hshort.not_ge, if_neg (by omega)]

theorem State.busySum_eq (s : State) :
    s.busySum = (if (s.bay 0).state = .busy then (s.bay 0).limit else 0) +
      (if (s.bay 1).state = .busy then (s.bay 1).limit else 0) := rfl

/-- Settles O55: the cases of the requested limit, then those of the grant over the remainder. -/
theorem currentLimitGranted : Obligations.CurrentLimitGranted := by
  refine ⟨fun capacity rate => ⟨requestedLimit_mod_hundred _ _, le_requestedLimit _ _, requestedLimit_le _ _,
    requestedLimit_of_le, requestedLimit_of_ge, fun hlo hhi => ?_⟩, fun s i => ?_⟩
  · rw [requestedLimit_of_mem hlo hhi]
    exact ⟨Nat.div_mul_le_self _ 100, Nat.lt_div_mul_add (by decide)⟩
  · simp only [← State.busySum_eq]
    exact ⟨grantLimit_whole, grantLimit_reduced, grantLimit_eq_none⟩

/-! ## Half up and the clamp (R47) -/

/-- `roundHalfUp a b` is the integer `m` with `m - 1/2 ≤ a/b < m + 1/2`, written without fractions. -/
theorem roundHalfUp_bounds (a : Int) {b : Int} (hb : 0 < b) :
    2 * a - b < 2 * b * roundHalfUp a b ∧ 2 * b * roundHalfUp a b ≤ 2 * a + b := by
  have hle : 2 * b * roundHalfUp a b ≤ 2 * a + b := Int.mul_ediv_self_le (by omega)
  have hlt : 2 * a + b < 2 * b * roundHalfUp a b + 2 * b := Int.lt_mul_ediv_self_add (by omega)
  exact ⟨by omega, hle⟩

theorem le_clampInt (lo hi v : Int) : lo ≤ clampInt lo hi v := le_max_left _ _

theorem clampInt_le {lo hi : Int} (h : lo ≤ hi) (v : Int) : clampInt lo hi v ≤ hi := max_le h (min_le_left _ _)

/-- Strictly between its bounds the clamp has changed nothing. -/
theorem clampInt_eq_of_lt {lo hi v : Int} (hlo : lo < clampInt lo hi v) (hhi : clampInt lo hi v < hi) :
    clampInt lo hi v = v := by
  unfold clampInt at *
  omega

/-! ## Setpoints (R50, R51) -/

/-- The compensation of R50 is rounded half up: its figure is `roundHalfUp` over 2,000. -/
theorem cellVoltage_eq (p : Profile) (mean : Int) :
    cellVoltage p mean =
      clampInt p.clampMin p.clampMax (roundHalfUp (2000 * p.vEq + p.k * (50 - mean)) 2000) := by
  unfold cellVoltage roundHalfUp
  congr 1
  omega

theorem clampMin_le_cellVoltage (p : Profile) (mean : Int) : (p.clampMin : Int) ≤ cellVoltage p mean := le_clampInt _ _ _

theorem cellVoltage_le_clampMax {p : Profile} (h : p.clampMin ≤ p.clampMax) (mean : Int) :
    cellVoltage p mean ≤ p.clampMax := clampInt_le (by exact_mod_cast h) _

theorem cellVoltage_of_unclamped {p : Profile} {mean : Int} (hlo : p.clampMin < cellVoltage p mean)
    (hhi : cellVoltage p mean < p.clampMax) :
    cellVoltage p mean = roundHalfUp (2000 * p.vEq + p.k * (50 - mean)) 2000 := by
  rw [cellVoltage_eq] at *
  exact clampInt_eq_of_lt hlo hhi

theorem setpointCmd_mul_ten_le (p : Profile) (mean : Int) (cells : Nat) :
    setpointCmd p mean cells * 10 ≤ (cellVoltage p mean).toNat * cells := Nat.div_mul_le_self _ _

theorem lt_setpointCmd_mul_ten_add (p : Profile) (mean : Int) (cells : Nat) :
    (cellVoltage p mean).toNat * cells < setpointCmd p mean cells * 10 + 10 := Nat.lt_div_mul_add (by decide)

theorem setpointCmd_mul_ten_le_clampMax {p : Profile} (h : p.clampMin ≤ p.clampMax) (mean : Int) (cells : Nat) :
    setpointCmd p mean cells * 10 ≤ p.clampMax * cells :=
  calc setpointCmd p mean cells * 10
    _ ≤ (cellVoltage p mean).toNat * cells := setpointCmd_mul_ten_le p mean cells
    _ ≤ p.clampMax * cells := Nat.mul_le_mul_right _ (Int.toNat_le.2 (cellVoltage_le_clampMax h mean))

/-! ## Window mean (R56) -/

theorem windowMean_void {count : Nat} (h : count < 3) (sum : Int) : windowMean count sum = none := if_pos h

theorem windowMean_of_le {count : Nat} (h : 3 ≤ count) (sum : Int) : windowMean count sum = some (sum.tdiv count) :=
  if_neg h.not_gt

/-- Division toward zero divides the magnitudes, rounding down. -/
theorem natAbs_tdiv_bounds (sum : Int) {count : Nat} (h : 0 < count) :
    (sum.tdiv count).natAbs * count ≤ sum.natAbs ∧ sum.natAbs < ((sum.tdiv count).natAbs + 1) * count := by
  rw [Int.natAbs_tdiv, Int.natAbs_natCast]
  exact ⟨Nat.div_mul_le_self _ _, Nat.lt_mul_of_div_lt (Nat.lt_succ_self _) h⟩

theorem neg_of_tdiv_neg {sum : Int} {count : Nat} (h : sum.tdiv count < 0) : sum < 0 := by
  by_contra hpos
  have := Int.tdiv_nonneg (not_lt.1 hpos) (Int.natCast_nonneg count)
  omega

theorem pos_of_tdiv_pos {sum : Int} {count : Nat} (h : 0 < sum.tdiv count) : 0 < sum := by
  have hneg : (-sum).tdiv count < 0 := by rw [Int.neg_tdiv]; omega
  have := neg_of_tdiv_neg hneg
  omega

/-! ## Water debt and the reduction of Q (R59, R60) -/

theorem debt_bounds (q g : Nat) : debt q g * 3600000 ≤ q * g ∧ q * g < (debt q g + 1) * 3600000 :=
  ⟨Nat.div_mul_le_self _ _, Nat.lt_mul_of_div_lt (Nat.lt_succ_self _) (by decide)⟩

@[simp] theorem reduceQ_no_gassing (q d n : Nat) : reduceQ q d n 0 = q := rfl

theorem reduceQ_of_gassing (q d n : Nat) {g : Nat} (hg : 0 < g) :
    reduceQ q d n g = q - d * 1000 * 3600000 / (n * g) := if_neg hg.ne'

/-- Settles O56: each rounding by its own bounds. -/
theorem figuresRoundAsStated : Obligations.FiguresRoundAsStated := by
  refine ⟨fun a b hb => roundHalfUp_bounds a hb, fun p mean cells hclamp => ?_,
    fun count sum => ⟨fun h => windowMean_void h sum, fun h => ?_⟩, debt_bounds, fun q d n g => ⟨?_, fun hn hg => ?_⟩⟩
  · refine ⟨clampMin_le_cellVoltage p mean, cellVoltage_le_clampMax hclamp mean,
      setpointCmd_mul_ten_le_clampMax hclamp mean cells, lt_setpointCmd_mul_ten_add p mean cells, fun hlo hhi => ?_⟩
    have hround := roundHalfUp_bounds (2000 * p.vEq + p.k * (50 - mean)) (b := 2000) (by decide)
    rw [← cellVoltage_of_unclamped hlo hhi] at hround
    omega
  · obtain ⟨hle, hlt⟩ := natAbs_tdiv_bounds sum (count := count) (by omega)
    exact ⟨sum.tdiv count, windowMean_of_le h sum, hle, hlt, pos_of_tdiv_pos, neg_of_tdiv_neg⟩
  · rintro rfl
    exact reduceQ_no_gassing q d n
  · exact ⟨d * 1000 * 3600000 / (n * g), Nat.div_mul_le_self _ _,
      Nat.lt_mul_of_div_lt (Nat.lt_succ_self _) (Nat.mul_pos hn hg), reduceQ_of_gassing q d n hg⟩

end Sys2Proof.Machine
end

section
/-! PROOF. Taking a management request that names a string (R175), and the snapshots (R49, R168 to R171): one lemma for each
case of an answer. -/

namespace Sys2Proof.Machine

open Sys2Proof

/-! ## The string a request names -/

@[simp] theorem natField_zero_one (n : Byte) (args : List Byte) : natField (n :: args) 0 1 = n.toNat := by
  simp [natField, field, beNat]

theorem indexOf?_eq_none {n v : Nat} (h : n ≤ v) : indexOf? n v = none := dif_neg h.not_gt

@[simp] theorem indexOf?_val {n : Nat} (i : Fin n) : indexOf? n i.val = some i := dif_pos i.isLt

theorem stringArg_eq_none {n : Byte} (h : 8 ≤ n.toNat) (args : List Byte) : stringArg (n :: args) = none := by
  rw [stringArg, natField_zero_one, indexOf?_eq_none h]

theorem stringArg_eq_some {n : Byte} {i : StringNo} (h : n.toNat = i.val) (args : List Byte) :
    stringArg (n :: args) = some i := by
  rw [stringArg, natField_zero_one, h, indexOf?_val]

/-! ## An answer that triggers no evaluation (R75, R175) -/

/-- What MU does with a request at the head of its queue whose answer leaves no evaluation due. -/
theorem AtHead.takeRequest_eq {s t : State} {src : Byte} {p : List Byte} {rest : List Request} {k : RequestKind}
    {answer : State → List Byte → Answer} {r : Reply} (hs : AtHead s src p rest) (hkind : requestKind p = k)
    (hanswer : answer (s.withInput rest) p.tail = (r, t)) (hquiet : t.evalDue = s.evalDue) :
    s.takeRequest k answer = t.sendReply src (requestCode p) r := by
  have hsettled : t.settle = t := t.settle_settled (hquiet.trans hs.settled)
  calc s.takeRequest k answer
    _ = s.answerHead ⟨src, p⟩ rest answer := s.takeRequest_head k answer _ rest hs.idle hs.head hkind
    _ = (answer (s.withInput rest) p.tail).2.settle.sendReply src (requestCode p)
          (answer (s.withInput rest) p.tail).1 := rfl
    _ = t.sendReply src (requestCode p) r := by rw [hanswer, hsettled]

/-! ## What the MU input queue leaves -/

@[simp] theorem State.withInput_requests (s : State) (l : List Request) : (s.withInput l).requests = s.requests := rfl
@[simp] theorem State.withInput_bays (s : State) (l : List Request) : (s.withInput l).bays = s.bays := rfl
@[simp] theorem State.withInput_evalDue (s : State) (l : List Request) : (s.withInput l).evalDue = s.evalDue := rfl

/-! ## The last mean (R49) -/

theorem State.noteMean_of_stale {s : State} {i : StringNo} (h : s.freshCells i = []) : s.noteMean i = s := by
  simp [State.noteMean, h]

theorem State.noteMean_of_fresh {s : State} {i : StringNo} (h : s.freshCells i ≠ []) :
    s.noteMean i = s.modStr i fun r => { r with lastMean := some (s.meanOf i) } := by
  obtain ⟨c, l, hcons⟩ := List.exists_cons_of_ne_nil h
  simp [State.noteMean, hcons]

theorem State.noteMean_lastMean {s : State} {i : StringNo} (h : s.freshCells i ≠ []) :
    ((s.noteMean i).str i).lastMean = some (s.meanOf i) := by
  rw [State.noteMean_of_fresh h, State.str_modStr]

/-- Noting a mean writes the string records. -/
theorem State.noteMean_eq (s : State) (i : StringNo) : s.noteMean i = { s with strings := (s.noteMean i).strings } := by
  by_cases h : s.freshCells i = []
  · rw [State.noteMean_of_stale h]
  · rw [State.noteMean_of_fresh h]; rfl

@[simp] theorem State.noteMean_mgmt (s : State) (i : StringNo) : (s.noteMean i).mgmt = s.mgmt := by rw [State.noteMean_eq]
@[simp] theorem State.noteMean_requests (s : State) (i : StringNo) : (s.noteMean i).requests = s.requests := by
  rw [State.noteMean_eq]
@[simp] theorem State.noteMean_bays (s : State) (i : StringNo) : (s.noteMean i).bays = s.bays := by rw [State.noteMean_eq]
@[simp] theorem State.noteMean_evalDue (s : State) (i : StringNo) : (s.noteMean i).evalDue = s.evalDue := by
  rw [State.noteMean_eq]

/-! ## The latches (R168) -/

/-- The latch of a string is filled with the values of the moment (R169, R170). -/
def State.fillLatch (s : State) (i : StringNo) : State :=
  { s with mgmt := { s.mgmt with latches := tset s.mgmt.latches i (some (s.snapshotOf i)) } }

theorem State.fillLatch_self (s : State) (i : StringNo) :
    (s.fillLatch i).mgmt.latches[i] = some (s.snapshotOf i) := tset_self _ i _
theorem State.fillLatch_ne (s : State) (i : StringNo) {j : StringNo} (h : j ≠ i) :
    (s.fillLatch i).mgmt.latches[j] = s.mgmt.latches[j] := tset_ne _ i j _ h
@[simp] theorem State.fillLatch_requests (s : State) (i : StringNo) : (s.fillLatch i).requests = s.requests := rfl
@[simp] theorem State.fillLatch_bays (s : State) (i : StringNo) : (s.fillLatch i).bays = s.bays := rfl
@[simp] theorem State.fillLatch_evalDue (s : State) (i : StringNo) : (s.fillLatch i).evalDue = s.evalDue := rfl

theorem State.emptyLatch_self (s : State) (i : StringNo) : (s.emptyLatch i).mgmt.latches[i] = none := tset_self _ i _
theorem State.emptyLatch_ne (s : State) (i : StringNo) {j : StringNo} (h : j ≠ i) :
    (s.emptyLatch i).mgmt.latches[j] = s.mgmt.latches[j] := tset_ne _ i j _ h

/-! ## SNAPSHOT (R169) -/

section
variable {s : State} {args : List Byte} {i : StringNo}

theorem State.answerSnapshot_badRange (hi : stringArg args = none) : s.answerSnapshot args = s.refuse .badRange := by
  simp [State.answerSnapshot, hi]

theorem State.answerSnapshot_absent (hi : stringArg args = some i) (h : (s.str i).state = .absent) :
    s.answerSnapshot args = s.refuse .badState := by
  simp [State.answerSnapshot, hi, h]

theorem State.answerSnapshot_full (hi : stringArg args = some i) (h : (s.str i).state ≠ .absent)
    (hfull : s.mgmt.latches[i] ≠ none) : s.answerSnapshot args = ({ code := .ok, data := [0x01] }, s) := by
  obtain ⟨x, hx⟩ := Option.ne_none_iff_exists'.1 hfull
  simp only [State.answerSnapshot, hi, if_neg h, hx]

theorem State.answerSnapshot_empty (hi : stringArg args = some i) (h : (s.str i).state ≠ .absent)
    (hempty : s.mgmt.latches[i] = none) :
    s.answerSnapshot args = ({ code := .ok, data := [0x00] }, (s.fillLatch i).noteMean i) := by
  simp only [State.answerSnapshot, hi, if_neg h, hempty]
  rfl

/-! ## READ_SNAPSHOT (R171) -/

theorem State.answerReadSnapshot_badRange (hi : stringArg args = none) :
    s.answerReadSnapshot args = s.refuse .badRange := by
  simp [State.answerReadSnapshot, hi]

theorem State.answerReadSnapshot_full (hi : stringArg args = some i) {x : Snapshot} (hx : s.mgmt.latches[i] = some x) :
    s.answerReadSnapshot args = ({ code := .ok, data := snapshotBytes false x }, s.emptyLatch i) := by
  simp only [State.answerReadSnapshot, hi, hx]

theorem State.answerReadSnapshot_absent (hi : stringArg args = some i) (hempty : s.mgmt.latches[i] = none)
    (h : (s.str i).state = .absent) : s.answerReadSnapshot args = s.refuse .badState := by
  simp only [State.answerReadSnapshot, hi, hempty, if_pos h]

theorem State.answerReadSnapshot_live (hi : stringArg args = some i) (hempty : s.mgmt.latches[i] = none)
    (h : (s.str i).state ≠ .absent) :
    s.answerReadSnapshot args = ({ code := .ok, data := snapshotBytes true (s.snapshotOf i) }, s.noteMean i) := by
  simp only [State.answerReadSnapshot, hi, hempty, if_neg h]

end

/-! ## The requests at the head of the queue -/

section
variable {s t : State} {src n : Byte} {rest : List Request} {r : Reply}

theorem AtHead.exec_snapshot (hs : AtHead s src [0x09, n] rest) (hanswer : (s.withInput rest).answerSnapshot [n] = (r, t))
    (hquiet : t.evalDue = s.evalDue) : exec .snapshot s = .next (t.sendReply src 0x09 r) :=
  congrArg Host.Outcome.next (hs.takeRequest_eq rfl hanswer hquiet)

theorem AtHead.exec_readSnapshot (hs : AtHead s src [0x0A, n] rest)
    (hanswer : (s.withInput rest).answerReadSnapshot [n] = (r, t)) (hquiet : t.evalDue = s.evalDue) :
    exec .readSnapshot s = .next (t.sendReply src 0x0A r) :=
  congrArg Host.Outcome.next (hs.takeRequest_eq rfl hanswer hquiet)

end

/-- Settles O29: each branch of the two answers as MU takes it; none triggers an evaluation. -/
theorem snapshotsLatchAndRead : Obligations.SnapshotsLatchAndRead := by
  intro s src n rest u
  refine ⟨fun hs => ⟨fun hn => ?_, fun i hi => ?_⟩, fun hs => ⟨fun hn => ?_, fun i hi => ?_⟩⟩
  · exact hs.exec_snapshot (State.answerSnapshot_badRange (stringArg_eq_none hn [])) rfl
  · have harg : stringArg [n] = some i := stringArg_eq_some hi []
    refine ⟨fun h => ?absent, fun h hfull => ?full, fun h hempty => ?empty⟩
    case absent => exact hs.exec_snapshot (State.answerSnapshot_absent harg h) rfl
    case full => exact hs.exec_snapshot (State.answerSnapshot_full harg h hfull) rfl
    case empty =>
      refine ⟨(u.fillLatch i).noteMean i, hs.exec_snapshot (State.answerSnapshot_empty harg h hempty) (by simp [u]),
        ?latched, fun j hj => ?others, fun hfresh => ?mean, fun hstale => ?strings, by simp [u], by simp [u]⟩
      case latched => rw [State.noteMean_mgmt]; exact u.fillLatch_self i
      case others => rw [State.noteMean_mgmt]; exact u.fillLatch_ne i hj
      case mean => exact State.noteMean_lastMean (s := u.fillLatch i) hfresh
      case strings => rw [State.noteMean_of_stale (s := u.fillLatch i) hstale]; rfl
  · exact hs.exec_readSnapshot (State.answerReadSnapshot_badRange (stringArg_eq_none hn [])) rfl
  · have harg : stringArg [n] = some i := stringArg_eq_some hi []
    refine ⟨fun x hx => ?full, fun hempty h => ?absent, fun hempty h => ?live⟩
    case full =>
      exact ⟨u.emptyLatch i, hs.exec_readSnapshot (State.answerReadSnapshot_full harg hx) rfl, u.emptyLatch_self i,
        fun j hj => u.emptyLatch_ne i hj, rfl⟩
    case absent => exact hs.exec_readSnapshot (State.answerReadSnapshot_absent harg hempty h) rfl
    case live =>
      exact ⟨u.noteMean i, hs.exec_readSnapshot (State.answerReadSnapshot_live harg hempty h) (u.noteMean_evalDue i),
        (congrArg Management.latches (u.noteMean_mgmt i) :), fun hfresh => State.noteMean_lastMean (s := u) hfresh,
        State.noteMean_of_stale (s := u)⟩

end Sys2Proof.Machine
end

section
/-! PROOF. What a table read answers, table by table (R19, R181), and RESTORE (R182) with the fields its request carries. -/

namespace Sys2Proof.Machine

open Sys2Proof

/-! ## The fields of a payload (R16) -/

@[simp] theorem natField_cons_succ (b : Byte) (l : List Byte) (off len : Nat) :
    natField (b :: l) (off + 1) len = natField l off len := rfl

/-- The first field of a payload, as a byte. -/
@[simp] theorem byteField_zero (b : Byte) (l : List Byte) : byteField (b :: l) 0 = b := by
  rw [byteField, natField_zero_one, BitVec.ofNat_toNat, BitVec.setWidth_eq]

@[simp] theorem beBytes_length (k n : Nat) : (beBytes k n).length = k := by
  induction k with
  | zero => rfl
  | succ k ih => rw [beBytes, List.length_cons, ih]

/-- The written bytes, read behind what an accumulator holds: they count modulo the width of the field. -/
theorem foldl_beBytes (k n a : Nat) :
    (beBytes k n).foldl (fun a b => a * 256 + b.toNat) a = a * 256 ^ k + n % 256 ^ k := by
  induction k generalizing a with
  | zero => simp [beBytes, Nat.mod_one]
  | succ k ih =>
    have hmod : n % 256 ^ (k + 1) = n % 256 ^ k + 256 ^ k * (n / 256 ^ k % 256) := Nat.mod_pow_succ
    rw [beBytes, List.foldl_cons, ih, hmod, BitVec.toNat_ofNat, Nat.pow_succ]
    ring

theorem beNat_beBytes {k n : Nat} (h : n < 256 ^ k) : beNat (beBytes k n) = n := by
  rw [beNat, foldl_beBytes, Nat.mod_eq_of_lt h]
  omega

/-- A field written behind other bytes reads back as its number. -/
theorem natField_append_beBytes (l r : List Byte) {k n : Nat} (h : n < 256 ^ k) :
    natField (l ++ beBytes k n ++ r) l.length k = n := by
  rw [natField, field, List.append_assoc, List.drop_left, List.take_left' (beBytes_length k n), beNat_beBytes h]

/-! ## TABLE_READ (R181) -/

section
variable {s : State} {src n m t part : Byte} {args : List Byte} {rest : List Request} {r : Reply}

/-- A part above 01h. -/
theorem State.readBody_part_unknown (h : 1 < natField args (args.length - 1) 1) :
    s.readBody t args = { code := .badRequest } := if_pos (.inl h)

/-- RUN for a table that has no RUN body. -/
theorem State.readBody_no_run (h : natField args (args.length - 1) 1 = 1) (hstring : t ≠ 0x03) (hcell : t ≠ 0x04) :
    s.readBody t args = { code := .badRequest } := if_pos (.inr ⟨h, hstring, hcell⟩)

/-- Of a table other than the String Table and the Cell Table only the CONFIG body is read. -/
theorem State.readBody_not_config (hlast : natField args (args.length - 1) 1 = part.toNat) (hpart : part ≠ 0x00)
    (hstring : t ≠ 0x03) (hcell : t ≠ 0x04) : s.readBody t args = { code := .badRequest } := by
  have hpos : part.toNat ≠ 0 := fun h => hpart (BitVec.eq_of_toNat_eq h)
  obtain hrun | hunknown : part.toNat = 1 ∨ 1 < part.toNat := by omega
  · exact State.readBody_no_run (hlast.trans hrun) hstring hcell
  · exact State.readBody_part_unknown (hlast ▸ hunknown)

theorem State.readBody_site (s : State) :
    s.readBody 0x01 [0x00] = { code := .ok, data := [0x01, 0x00] ++ siteBody s.site } := rfl

theorem State.readBody_map {a : Byte} (ha : isFieldAddr a = true) :
    s.readBody 0x02 [a, 0x00] = { code := .ok, data := [0x02, a, 0x00] ++ mapBody (s.mapped a) } := by
  simp [State.readBody, ha]

theorem State.readBody_map_badRange {a : Byte} (ha : isFieldAddr a = false) :
    s.readBody 0x02 [a, 0x00] = { code := .badRange } := by
  simp [State.readBody, ha]

theorem State.readBody_string {i : StringNo} (hi : n.toNat = i.val) (hpart : part.toNat ≤ 1) :
    s.readBody 0x03 [n, part] =
      { code := .ok,
        data := [0x03, n, part] ++ if part.toNat = 0 then stringBody (s.str i).cfg else stringRun (s.str i) } := by
  simp [State.readBody, hpart.not_gt, stringArg_eq_some hi]

theorem State.readBody_string_badRange (hn : 8 ≤ n.toNat) (hpart : part.toNat ≤ 1) :
    s.readBody 0x03 [n, part] = { code := .badRange } := by
  simp [State.readBody, hpart.not_gt, stringArg_eq_none hn]

theorem State.readBody_cell {i : StringNo} {p : Position} (hi : n.toNat = i.val) (hp : m.toNat = p.val)
    (hpart : part.toNat ≤ 1) :
    s.readBody 0x04 [n, m, part] =
      { code := .ok,
        data := [0x04, n, m, part] ++ if part.toNat = 0 then cellBody (s.cell i p) else cellRun (s.cell i p) } := by
  simp [State.readBody, hpart.not_gt, stringArg_eq_some hi, hp]

theorem State.readBody_cell_badRange (h : 8 ≤ n.toNat ∨ 32 ≤ m.toNat) (hpart : part.toNat ≤ 1) :
    s.readBody 0x04 [n, m, part] = { code := .badRange } := by
  obtain hn | hm := h
  · simp [State.readBody, hpart.not_gt, stringArg_eq_none hn]
  · simp [State.readBody, hpart.not_gt, indexOf?_eq_none hm]

theorem State.readBody_profile {k : ProfileNo} (hk : n.toNat = k.val) :
    s.readBody 0x05 [n, 0x00] = { code := .ok, data := [0x05, n, 0x00] ++ profileBody s.profiles[k] } := by
  simp [State.readBody, stringArg_eq_some hk]

theorem State.readBody_profile_badRange (hn : 8 ≤ n.toNat) : s.readBody 0x05 [n, 0x00] = { code := .badRange } := by
  simp [State.readBody, stringArg_eq_none hn]

/-- A read at the head of the queue: the request leaves it, and the reply with the body in force is offered. -/
theorem AtHead.exec_tableRead (hs : AtHead s src (0x02 :: t :: args) rest)
    (hform : requestKind (0x02 :: t :: args) = .tableRead) (hbody : s.readBody t args = r) :
    exec .tableRead s = .next ((s.withInput rest).sendReply src 0x02 r) := by
  have hanswer : (s.withInput rest).answerRead (t :: args) = (r, s.withInput rest) := by
    rw [State.answerRead, byteField_zero]
    exact congrArg (·, s.withInput rest) hbody
  exact congrArg Host.Outcome.next (hs.takeRequest_eq hform hanswer rfl)

end

/-- Settles O22: table by table, each case of the body as MU answers it; the state is what the queue leaves. -/
theorem tableReadChangesNothing : Obligations.TableReadChangesNothing := by
  intro s src rest part u answered
  refine ⟨fun hs => ?site, fun a hs => ?map, fun n hs => ?string, fun n m hs => ?cell, fun n hs => ?profile⟩
  case site =>
    refine ⟨?_, fun hpart => hs.exec_tableRead rfl
      (State.readBody_not_config (natField_zero_one part []) hpart (by decide) (by decide))⟩
    rintro rfl
    exact hs.exec_tableRead rfl s.readBody_site
  case map =>
    refine ⟨?_, ?_, fun hpart => hs.exec_tableRead rfl
      (State.readBody_not_config (natField_zero_one part []) hpart (by decide) (by decide))⟩
    · rintro rfl ha
      exact hs.exec_tableRead rfl (State.readBody_map ha)
    · rintro rfl ha
      exact hs.exec_tableRead rfl (State.readBody_map_badRange ha)
  case string =>
    refine ⟨fun i hi => ⟨?_, ?_⟩, fun hpart hn => hs.exec_tableRead rfl (State.readBody_string_badRange hn hpart),
      fun hpart => hs.exec_tableRead rfl (State.readBody_part_unknown (hpart.trans_eq (natField_zero_one part []).symm))⟩
    · rintro rfl
      exact hs.exec_tableRead rfl (State.readBody_string hi (by decide))
    · rintro rfl
      exact hs.exec_tableRead rfl (State.readBody_string hi (by decide))
  case cell =>
    refine ⟨fun i p hi hp => ⟨?_, ?_⟩, fun hpart h => hs.exec_tableRead rfl (State.readBody_cell_badRange h hpart),
      fun hpart => hs.exec_tableRead rfl (State.readBody_part_unknown (hpart.trans_eq (natField_zero_one part []).symm))⟩
    · rintro rfl
      exact hs.exec_tableRead rfl (State.readBody_cell hi hp (by decide))
    · rintro rfl
      exact hs.exec_tableRead rfl (State.readBody_cell hi hp (by decide))
  case profile =>
    refine ⟨?_, ?_, fun hpart => hs.exec_tableRead rfl
      (State.readBody_not_config (natField_zero_one part []) hpart (by decide) (by decide))⟩
    · rintro k hk rfl
      exact hs.exec_tableRead rfl (State.readBody_profile hk)
    · rintro rfl hn
      exact hs.exec_tableRead rfl (State.readBody_profile_badRange hn)

/-! ## RESTORE (R182) -/

/-- The arguments of a RESTORE: string, Q, equalise age (R18). -/
def restoreArgs (n : Byte) (q age : Nat) : List Byte := [n] ++ beBytes 5 q ++ beBytes 2 age

theorem restoreArgs_charge (n : Byte) {q : Nat} (age : Nat) (hq : q < 2 ^ 40) :
    natField (restoreArgs n q age) 1 5 = q := natField_append_beBytes [n] (beBytes 2 age) (by omega)

theorem restoreArgs_age (n : Byte) (q : Nat) {age : Nat} (hage : age < 2 ^ 16) :
    natField (restoreArgs n q age) 6 2 = age := by
  have h := natField_append_beBytes ([n] ++ beBytes 5 q) [] (k := 2) (n := age) (by omega)
  rwa [List.append_nil] at h

section
variable {s t : State} {src n : Byte} {rest : List Request} {args : List Byte} {i : StringNo} {q age : Nat} {r : Reply}

theorem State.answerRestore_badRange (hi : stringArg args = none) : s.answerRestore args = s.refuse .badRange := by
  simp [State.answerRestore, hi]

theorem State.answerRestore_badState (hi : stringArg args = some i) (habsent : (s.str i).state ≠ .absent)
    (hfloat : (s.str i).state ≠ .float) : s.answerRestore args = s.refuse .badState := by
  simp [State.answerRestore, hi, habsent, hfloat]

theorem State.answerRestore_ok (hi : stringArg args = some i)
    (h : (s.str i).state = .absent ∨ (s.str i).state = .float) :
    s.answerRestore args =
      ({ code := .ok }, s.modStr i fun r => { r with q := natField args 1 5, age := natField args 6 2 }) := by
  have hallowed : ¬((s.str i).state ≠ .absent ∧ (s.str i).state ≠ .float) := by tauto
  simp only [State.answerRestore, hi, if_neg hallowed]

theorem AtHead.exec_restore (hs : AtHead s src (0x03 :: restoreArgs n q age) rest)
    (hanswer : (s.withInput rest).answerRestore (restoreArgs n q age) = (r, t)) (hquiet : t.evalDue = s.evalDue) :
    exec .restore s = .next (t.sendReply src 0x03 r) :=
  congrArg Host.Outcome.next (hs.takeRequest_eq rfl hanswer hquiet)

end

/-- Settles O23: each branch of the answer as MU takes it, with Q and the equalise age read back from the request. -/
theorem restoreSetsChargeAndAge : Obligations.RestoreSetsChargeAndAge := by
  intro s src n rest q age hq hage hs u
  have hs : AtHead s src (0x03 :: restoreArgs n q age) rest := hs
  refine ⟨fun hn => ?badRange, fun i hi => ?named⟩
  case badRange => exact hs.exec_restore (State.answerRestore_badRange (stringArg_eq_none hn _)) rfl
  case named =>
    have harg : stringArg (restoreArgs n q age) = some i := stringArg_eq_some hi _
    refine ⟨fun habsent hfloat => ?badState, fun hstate => ?restored⟩
    case badState => exact hs.exec_restore (State.answerRestore_badState harg habsent hfloat) rfl
    case restored =>
      have hanswer := State.answerRestore_ok (s := u) harg hstate
      rw [restoreArgs_charge n age hq, restoreArgs_age n q hage] at hanswer
      exact hs.exec_restore hanswer rfl

end Sys2Proof.Machine
end

section
/-! PROOF. The laws of the part (O57 to O60), prepared once for every operation. `Skeleton` is what the budget and the link of
strings, bays and round speak of; `Quiet` says that an operation keeps the skeleton, STAT's causes and the evaluation due;
`Moves` says that an operation moves the skeleton only in the ways the manual allows, and `Settles` that it leaves no
evaluation due besides. -/

namespace Sys2Proof.Machine

open Sys2Proof

/-! ## The skeleton of a state -/

/-- The part of a bay that links it: state, string and current limit (R83). -/
structure BayLink where
  state : BayState
  string : Option StringNo
  limit : Nat

/-- The part of a string that links it: state and bay (R82, R83). -/
structure StringLink where
  state : StringState
  bay : Option BayNo

/-- What the laws of bays, strings and round, and the law of the budget, speak of. -/
structure Skeleton where
  bay : BayNo → BayLink
  str : StringNo → StringLink
  round : RoundState
  watered : Option StringNo
  bayCount : Nat
  budget : Nat

def Bay.link (r : Bay) : BayLink := ⟨r.state, r.string, r.limit⟩
def StringRec.link (r : StringRec) : StringLink := ⟨r.state, r.bay⟩

def State.skeleton (s : State) : Skeleton where
  bay b := (s.bay b).link
  str i := (s.str i).link
  round := s.water.round.state
  watered := s.water.round.string
  bayCount := s.site.bays
  budget := s.site.budget

def Skeleton.setBay (k : Skeleton) (b : BayNo) (l : BayLink) : Skeleton := { k with bay := Function.update k.bay b l }
def Skeleton.setStr (k : Skeleton) (i : StringNo) (l : StringLink) : Skeleton := { k with str := Function.update k.str i l }
def Skeleton.setRound (k : Skeleton) (st : RoundState) (w : Option StringNo) : Skeleton :=
  { k with round := st, watered := w }

/-- The current limit of the bay while it is BUSY (R54). -/
def BayLink.load (l : BayLink) : Nat := if l.state = .busy then l.limit else 0

/-- The sum of the current limits of the BUSY bays (R54). -/
def Skeleton.load (k : Skeleton) : Nat := (k.bay 0).load + (k.bay 1).load

/-- BASELINE to TRANSFER_BACK: the states of the string of a BUSY bay. -/
def StringState.served (x : StringState) : Prop :=
  x ∈ [StringState.baseline, .transferOut, .equalising, .held, .transferBack]

/-- The states in which a string has neither a bay nor the round. -/
def StringState.loose (x : StringState) : Prop := x = .absent ∨ x = .float ∨ x = .settling

/-- The ways in which the part moves its skeleton. -/
inductive Skeleton.Move : Skeleton → Skeleton → Prop where
  | refl (k : Skeleton) : Move k k
  | trans {k l m : Skeleton} : Move k l → Move l m → Move k m
  /-- A job goes on (R88, R89, R97, R98, R102). -/
  | advance (k : Skeleton) (i : StringNo) (st : StringState) (old : (k.str i).state.served) (new : st.served) :
      Move k (k.setStr i ⟨st, (k.str i).bay⟩)
  /-- A string without bay or round is fitted, unfitted or settled (R82, R106). -/
  | loosen (k : Skeleton) (i : StringNo) (st : StringState) (old : (k.str i).state.loose) (new : st.loose) :
      Move k (k.setStr i ⟨st, (k.str i).bay⟩)
  /-- An ISOLATED string without a bay is released; the laws know none. -/
  | release (k : Skeleton) (i : StringNo) (old : (k.str i).state = .isolated) (bay : (k.str i).bay = none) :
      Move k (k.setStr i ⟨.float, (k.str i).bay⟩)
  /-- A bay is freed and its string leaves it (R101, R103, R107). -/
  | free (k : Skeleton) (b : BayNo) (i : StringNo) (st : StringState)
      (linked : (k.bay b).string = some i ∨ (k.str i).bay = some b) (new : st.loose) :
      Move k ((k.setBay b ⟨.free, none, 0⟩).setStr i ⟨st, none⟩)
  /-- A string is isolated and its bay blocked (R104, R105). -/
  | block (k : Skeleton) (b : BayNo) (i : StringNo)
      (linked : (k.bay b).string = some i ∨ (k.str i).bay = some b) :
      Move k ((k.setBay b ⟨.blocked, (k.bay b).string, (k.bay b).limit⟩).setStr i ⟨.isolated, (k.str i).bay⟩)
  /-- A bay is granted to a string in FLOAT, within what the budget leaves (R54, R87). -/
  | grant (k : Skeleton) (b : BayNo) (i : StringNo) (limit : Nat) (bay : (k.bay b).state = .free)
      (string : (k.str i).state = .float) (inUse : b = 0 ∨ k.bayCount = 2) (covered : limit ≤ k.budget * 100 - k.load) :
      Move k ((k.setBay b ⟨.busy, some i, limit⟩).setStr i ⟨.baseline, some b⟩)
  /-- The round is granted to a string in FLOAT (R130). -/
  | water (k : Skeleton) (i : StringNo) (round : k.round = .idle) (string : (k.str i).state = .float) :
      Move k ((k.setRound .filling (some i)).setStr i ⟨.watering, (k.str i).bay⟩)
  /-- The round is cancelled with a fill outstanding (R141). -/
  | ending (k : Skeleton) (round : k.round = .filling) : Move k (k.setRound .ending k.watered)
  /-- The round ends (R143). -/
  | dry (k : Skeleton) (i : StringNo) (string : k.watered = some i) :
      Move k ((k.setRound .idle none).setStr i ⟨.float, (k.str i).bay⟩)
  /-- A round record without a string is emptied. -/
  | empty (k : Skeleton) (string : k.watered = none) : Move k (k.setRound .idle none)
  /-- The Site record is written (R178). -/
  | site (k : Skeleton) (bayCount budget : Nat) (bays : bayCount = k.bayCount ∨ ∀ b, (k.bay b).state = .free)
      (covered : k.load ≤ budget * 100) : Move k { k with bayCount := bayCount, budget := budget }

/-! ### The skeleton after an update -/

theorem Skeleton.str_eta (k : Skeleton) (i : StringNo) : k.setStr i (k.str i) = k := by
  simp [Skeleton.setStr]

theorem State.skeleton_setStr (s : State) (i : StringNo) (r : StringRec) :
    (s.setStr i r).skeleton = s.skeleton.setStr i r.link := by
  have hstr : (fun j => ((s.setStr i r).str j).link) = Function.update (fun j => (s.str j).link) i r.link := by
    funext j
    by_cases e : j = i
    · subst e; simp
    · rw [s.str_setStr_ne i j r e, Function.update_of_ne e]
  unfold State.skeleton Skeleton.setStr
  rw [hstr]
  rfl

theorem State.skeleton_modStr (s : State) (i : StringNo) (f : StringRec → StringRec) :
    (s.modStr i f).skeleton = s.skeleton.setStr i (f (s.str i)).link := s.skeleton_setStr i _

theorem State.skeleton_setBay (s : State) (b : BayNo) (r : Bay) :
    (s.setBay b r).skeleton = s.skeleton.setBay b r.link := by
  have hbay : (fun c => ((s.setBay b r).bay c).link) = Function.update (fun c => (s.bay c).link) b r.link := by
    funext c
    by_cases e : c = b
    · subst e; simp
    · rw [s.bay_setBay_ne b c r e, Function.update_of_ne e]
  unfold State.skeleton Skeleton.setBay
  rw [hbay]
  rfl

theorem State.skeleton_modBay (s : State) (b : BayNo) (f : Bay → Bay) :
    (s.modBay b f).skeleton = s.skeleton.setBay b (f (s.bay b)).link := s.skeleton_setBay b _

theorem State.skeleton_mapStrings (s : State) (f : StringNo → StringRec → StringRec)
    (h : ∀ i r, (f i r).link = r.link) : (s.mapStrings f).skeleton = s.skeleton := by
  have hstr : (fun i => ((s.mapStrings f).str i).link) = fun i => (s.str i).link := by
    funext i; rw [s.str_mapStrings, h]
  unfold State.skeleton
  rw [hstr]
  rfl

/-! ## The bounds of queues, lists and counts -/

/-- The four transmit queues are within their capacities (R10). -/
structure FramePath.Bounded (fp : FramePath) : Prop where
  chainForward : fp.chain.forwardQ.length ≤ 16
  chainLocal : fp.chain.localQ.length ≤ 8
  trunkForward : fp.trunk.forwardQ.length ≤ 16
  trunkLocal : fp.trunk.localQ.length ≤ 8

/-- The agree counts of a cell are in range (R31). -/
structure Cell.Bounded (c : Cell) : Prop where
  ov : c.ov.agree ≤ 2
  ot : c.ot.agree ≤ 2
  level : c.levelQ.agree ≤ 2

/-- The agree counts of the Gas Supervisor are in range (R31). -/
structure Gas.Bounded (g : Gas) : Prop where
  qualifier : g.qualifier.agree ≤ 2
  filter : g.filterAgree ≤ 2

def StringRec.Bounded (r : StringRec) : Prop := ∀ p, (r.cell p).Bounded

/-- What O57 states, sorted by the fields it speaks of. -/
structure Bounds (s : State) : Prop where
  fp : s.fp.Bounded
  input : s.mgmt.input.length ≤ 4
  results : s.mgmt.results.length ≤ 16
  requests : OneEntryPerPair s
  holds : OneHoldPerAddress s
  strings : ∀ i, (s.str i).Bounded
  gas : s.gas.Bounded

theorem bounds_iff (s : State) :
    Bounds s ↔ WithinCapacity s ∧ OneEntryPerPair s ∧ OneHoldPerAddress s ∧ AgreeCountsInRange s := by
  constructor
  · rintro ⟨⟨hcf, hcl, htf, htl⟩, hinput, hresults, hrequests, hholds, hstrings, ⟨hq, hf⟩⟩
    exact ⟨⟨hcf, hcl, htf, htl, hinput, hresults⟩, hrequests, hholds,
      fun i p => (hstrings i p).ov, fun i p => (hstrings i p).ot, fun i p => (hstrings i p).level, hq, hf⟩
  · rintro ⟨⟨hcf, hcl, htf, htl, hinput, hresults⟩, hrequests, hholds, ⟨hov, hot, hlevel, hq, hf⟩⟩
    exact ⟨⟨hcf, hcl, htf, htl⟩, hinput, hresults, hrequests, hholds,
      fun i p => ⟨hov i p, hot i p, hlevel i p⟩, ⟨hq, hf⟩⟩

/-! ## Operations that leave the skeleton -/

/-- The causes of STAT and the pin are the same (R122). -/
structure Gas.SameStat (g h : Gas) : Prop where
  state : h.state = g.state
  isolated : h.isolated = g.isolated
  stat : h.stat = g.stat

theorem Gas.SameStat.refl (g : Gas) : g.SameStat g := ⟨rfl, rfl, rfl⟩
theorem Gas.SameStat.trans {g h k : Gas} (a : g.SameStat h) (b : h.SameStat k) : g.SameStat k :=
  ⟨b.state.trans a.state, b.isolated.trans a.isolated, b.stat.trans a.stat⟩

/-- The operation keeps the bounds, the skeleton, STAT with its causes, and the evaluation due. -/
structure Quiet (s t : State) : Prop where
  bounds : Bounds s → Bounds t
  skeleton : t.skeleton = s.skeleton
  stat : s.gas.SameStat t.gas
  due : t.evalDue = s.evalDue

theorem Quiet.refl (s : State) : Quiet s s := ⟨id, rfl, .refl _, rfl⟩

theorem Quiet.trans {s t u : State} (a : Quiet s t) (b : Quiet t u) : Quiet s u :=
  ⟨b.bounds ∘ a.bounds, b.skeleton.trans a.skeleton, a.stat.trans b.stat, b.due.trans a.due⟩

theorem Quiet.foldl {α : Type} (f : State → α → State) (step : ∀ s a, Quiet s (f s a)) (l : List α) (s : State) :
    Quiet s (l.foldl f s) :=
  foldl_keeps (Quiet s) f (fun t a h => h.trans (step t a)) l s (.refl s)

/-! ### The updates -/

theorem Quiet.setFp (s : State) (fp : FramePath) (h : s.fp.Bounded → fp.Bounded) : Quiet s { s with fp := fp } :=
  ⟨fun b => ⟨h b.fp, b.input, b.results, b.requests, b.holds, b.strings, b.gas⟩, rfl, .refl _, rfl⟩

theorem Quiet.setMgmt (s : State) (m : Management) (input : s.mgmt.input.length ≤ 4 → m.input.length ≤ 4)
    (results : s.mgmt.results.length ≤ 16 → m.results.length ≤ 16) : Quiet s { s with mgmt := m } :=
  ⟨fun b => ⟨b.fp, input b.input, results b.results, b.requests, b.holds, b.strings, b.gas⟩, rfl, .refl _, rfl⟩

theorem Quiet.setRequests (s : State) (l : List Entry)
    (h : OneEntryPerPair s → OneEntryPerPair { s with requests := l }) : Quiet s { s with requests := l } :=
  ⟨fun b => ⟨b.fp, b.input, b.results, h b.requests, b.holds, b.strings, b.gas⟩, rfl, .refl _, rfl⟩

theorem Quiet.setHolds (s : State) (l : List Hold)
    (h : OneHoldPerAddress s → OneHoldPerAddress { s with holds := l }) : Quiet s { s with holds := l } :=
  ⟨fun b => ⟨b.fp, b.input, b.results, b.requests, h b.holds, b.strings, b.gas⟩, rfl, .refl _, rfl⟩

/-- An update of tables, clock and the model's own records. -/
theorem Quiet.setTables (s : State) (clock : Clock) (silence ceiling : Nat) (sourceMap : List MapEntry)
    (profiles : Vector Profile 8) (pending : List Instr) :
    Quiet s { s with clock := clock, silenceTimeout := silence, ceiling := ceiling, sourceMap := sourceMap,
                     profiles := profiles, pending := pending } :=
  ⟨fun b => ⟨b.fp, b.input, b.results, b.requests, b.holds, b.strings, b.gas⟩, rfl, .refl _, rfl⟩

theorem Quiet.modStr (s : State) (i : StringNo) (f : StringRec → StringRec)
    (link : (f (s.str i)).link = (s.str i).link) (cells : (s.str i).Bounded → (f (s.str i)).Bounded) :
    Quiet s (s.modStr i f) := by
  refine ⟨fun b => ⟨b.fp, b.input, b.results, b.requests, b.holds, fun j => ?_, b.gas⟩, ?_, .refl _, rfl⟩
  · by_cases e : j = i
    · subst e; rw [s.str_modStr]; exact cells (b.strings j)
    · rw [s.str_modStr_ne i j f e]; exact b.strings j
  · rw [s.skeleton_modStr, link]; exact s.skeleton.str_eta i

/-- An update of run fields outside the cells. -/
theorem Quiet.modRun (s : State) (i : StringNo) (f : StringRec → StringRec)
    (h : ∀ r, (f r).link = r.link ∧ (f r).cells = r.cells) : Quiet s (s.modStr i f) :=
  .modStr s i f (h _).1 fun hb p => by
    have : (f (s.str i)).cell p = (s.str i).cell p := by unfold StringRec.cell; rw [(h _).2]
    rw [this]; exact hb p

/-- An update of one cell. -/
theorem Quiet.modCell (s : State) (i : StringNo) (p : Position) (f : Cell → Cell)
    (h : ((s.str i).cell p).Bounded → (f ((s.str i).cell p)).Bounded) : Quiet s (s.modCell i p f) :=
  .modStr s i _ rfl fun hb q => by
    unfold StringRec.modCell
    by_cases e : q = p
    · subst e; rw [StringRec.cell_setCell]; exact h (hb q)
    · rw [StringRec.cell_setCell_ne _ _ _ _ e]; exact hb q

/-- A change of every cell of a string. -/
theorem StringRec.Bounded.mapCells {r : StringRec} (hb : r.Bounded) {f : Position → Cell → Cell}
    (h : ∀ p c, c.Bounded → (f p c).Bounded) : (r.mapCells f).Bounded := fun p => by
  rw [StringRec.cell_mapCells]; exact h p _ (hb p)

theorem Quiet.mapStrings (s : State) (f : StringNo → StringRec → StringRec) (link : ∀ i r, (f i r).link = r.link)
    (cells : ∀ i r, r.Bounded → (f i r).Bounded) : Quiet s (s.mapStrings f) :=
  ⟨fun b => ⟨b.fp, b.input, b.results, b.requests, b.holds, fun i => by
      rw [s.str_mapStrings]; exact cells i _ (b.strings i), b.gas⟩,
    s.skeleton_mapStrings f link, .refl _, rfl⟩

theorem Quiet.modBay (s : State) (b : BayNo) (f : Bay → Bay) (link : (f (s.bay b)).link = (s.bay b).link) :
    Quiet s (s.modBay b f) := by
  refine ⟨fun b => ⟨b.fp, b.input, b.results, b.requests, b.holds, b.strings, b.gas⟩, ?_, .refl _, rfl⟩
  rw [s.skeleton_modBay, link]
  simp [Skeleton.setBay, State.skeleton]

theorem Quiet.modGas (s : State) (f : Gas → Gas) (stat : s.gas.SameStat (f s.gas))
    (counts : s.gas.Bounded → (f s.gas).Bounded) : Quiet s (s.modGas f) :=
  ⟨fun b => ⟨b.fp, b.input, b.results, b.requests, b.holds, b.strings, counts b.gas⟩, rfl, stat, rfl⟩

/-- An update of the Gas Supervisor outside its states and counts. -/
theorem Quiet.modFan (s : State) (f : Gas → Gas)
    (h : ∀ g, g.SameStat (f g) ∧ (f g).qualifier = g.qualifier ∧ (f g).filterAgree = g.filterAgree) :
    Quiet s (s.modGas f) :=
  .modGas s f (h _).1 fun b => ⟨by rw [(h _).2.1]; exact b.qualifier, by rw [(h _).2.2]; exact b.filter⟩

theorem Quiet.modWater (s : State) (f : Watering → Watering)
    (h : (f s.water).round.state = s.water.round.state ∧ (f s.water).round.string = s.water.round.string) :
    Quiet s (s.modWater f) := by
  refine ⟨fun b => ⟨b.fp, b.input, b.results, b.requests, b.holds, b.strings, b.gas⟩, ?_, .refl _, rfl⟩
  have hskeleton : (s.modWater f).skeleton = s.skeleton.setRound (f s.water).round.state (f s.water).round.string := rfl
  rw [hskeleton, h.1, h.2]
  rfl

theorem Quiet.modRound (s : State) (f : Round → Round)
    (h : (f s.water.round).state = s.water.round.state ∧ (f s.water.round).string = s.water.round.string) :
    Quiet s (s.modRound f) := .modWater s _ h

end Sys2Proof.Machine
end

section
/-! PROOF. The shared operations of the Frame Path, the Hold Set, the results, the fan and the reports are quiet. -/

namespace Sys2Proof.Machine

open Sys2Proof

/-! ### The Frame Path -/

/-- An update of one port whose queues stay within their capacities. -/
theorem Quiet.modPort (s : State) (p : Port) (f : PortState → PortState)
    (h : s.fp.Bounded → (s.fp.setPort p (f (s.fp.port p))).Bounded) : Quiet s (s.modPort p f) := .setFp s _ h

/-- An update of a port that lengthens neither queue. -/
theorem Quiet.shrinkPort (s : State) (p : Port) (f : PortState → PortState)
    (local_ : (f (s.fp.port p)).localQ.length ≤ (s.fp.port p).localQ.length)
    (forward : (f (s.fp.port p)).forwardQ.length ≤ (s.fp.port p).forwardQ.length) : Quiet s (s.modPort p f) :=
  .modPort s p f fun h => by
    cases p
    · exact ⟨h.chainForward, h.chainLocal, forward.trans h.trunkForward, local_.trans h.trunkLocal⟩
    · exact ⟨forward.trans h.chainForward, local_.trans h.chainLocal, h.trunkForward, h.trunkLocal⟩

theorem Quiet.pushLocal (s : State) (p : Port) (f : Frame) (room : (s.fp.port p).localQ.length < 8) :
    Quiet s (s.modPort p (·.pushLocal f)) :=
  .modPort s p _ fun h => by
    obtain ⟨hlocal, hforward, -, -⟩ := (s.fp.port p).pushLocal_bounds f
    cases p
    · exact ⟨h.chainForward, h.chainLocal, hforward.trans h.trunkForward, hlocal.trans room⟩
    · exact ⟨hforward.trans h.chainForward, hlocal.trans room, h.trunkForward, h.trunkLocal⟩

theorem Quiet.pushForward (s : State) (p : Port) (f : Frame) (room : (s.fp.port p).forwardQ.length < 16) :
    Quiet s (s.modPort p (·.pushForward f)) :=
  .modPort s p _ fun h => by
    obtain ⟨hlocal, hforward, -, -⟩ := (s.fp.port p).pushForward_bounds f
    cases p
    · exact ⟨h.chainForward, h.chainLocal, hforward.trans room, hlocal.trans h.trunkLocal⟩
    · exact ⟨hforward.trans room, hlocal.trans h.chainLocal, h.trunkForward, h.trunkLocal⟩

/-- The counters and the waiting offers have no bound to keep. -/
theorem Quiet.counters (s : State) (offers : List Offer) (up down unmapped : Nat) :
    Quiet s { s with fp := { s.fp with offers := offers, upDrops := up, downDrops := down, unmapped := unmapped } } :=
  .setFp s _ fun h => ⟨h.chainForward, h.chainLocal, h.trunkForward, h.trunkLocal⟩

theorem Quiet.countUpDrop (s : State) : Quiet s s.countUpDrop := .counters s _ _ _ _
theorem Quiet.countDownDrop (s : State) : Quiet s s.countDownDrop := .counters s _ _ _ _
theorem Quiet.countUnmapped (s : State) : Quiet s s.countUnmapped := .counters s _ _ _ _
theorem Quiet.countBad (s : State) (p : Port) : Quiet s (s.countBad p) := .shrinkPort s p _ le_rfl le_rfl

theorem Quiet.forwardDown (s : State) (f : Frame) : Quiet s (s.forwardDown f) := by
  obtain ⟨hroom, h⟩ | ⟨_, h⟩ := s.forwardDown_cases f <;> rw [h]
  · exact .pushForward s .chain f hroom
  · exact .countDownDrop s

theorem Quiet.forwardUp (s : State) (f : Frame) : Quiet s (s.forwardUp f) := by
  obtain ⟨hroom, h⟩ | ⟨_, h⟩ := s.forwardUp_cases f <;> rw [h]
  · exact .pushForward s .trunk f hroom
  · exact .countUpDrop s

theorem Quiet.offerUp (s : State) (f : Frame) : Quiet s (s.offerUp f) := by
  obtain ⟨hroom, _, h⟩ | ⟨_, h⟩ := s.offerUp_cases f <;> rw [h]
  · exact .pushLocal s .trunk f hroom
  · exact .countUpDrop s

theorem Quiet.sendReply (s : State) (dst code : Byte) (r : Reply) : Quiet s (s.sendReply dst code r) := by
  obtain ⟨hroom, h⟩ | ⟨_, h⟩ := s.sendReply_cases dst code r <;> rw [h]
  · exact .pushLocal s .trunk _ hroom
  · exact .setMgmt s _ id id

/-! ### Offers -/

theorem State.offerRoom_iff (s : State) : s.offerRoom = true ↔ s.fp.offers = [] ∧ s.fp.chain.localQ.length < 8 := by
  rw [State.offerRoom, Bool.and_eq_true, List.isEmpty_iff, decide_eq_true_eq]
  rfl

theorem Quiet.takeCmd (s : State) (c : ChainCmd) (room : s.fp.chain.localQ.length < 8) : Quiet s (s.takeCmd c) :=
  .pushLocal s .chain _ room

theorem Quiet.waitOffer (s : State) (a : Activity) (c : ChainCmd) : Quiet s (s.waitOffer a c) := .counters s _ _ _ _
theorem Quiet.withdraw (s : State) (a : Activity) : Quiet s (s.withdraw a) := .counters s _ _ _ _
theorem Quiet.withdrawOpen (s : State) : Quiet s s.withdrawOpen := .counters s _ _ _ _

/-- An offer that is taken at once, and goes on, or that waits. -/
theorem Quiet.offer (s : State) (a : Activity) (c : ChainCmd) (go : State → State) (h : ∀ t, Quiet t (go t)) :
    Quiet s (if s.offerRoom then go (s.takeCmd c) else s.waitOffer a c) := by
  split
  · exact (Quiet.takeCmd s c (s.offerRoom_iff.1 ‹_›).2).trans (h _)
  · exact .waitOffer s a c

/-! ### The steps of a bay -/

theorem Quiet.startConfirm (s : State) (b : BayNo) (c : ChainCmd) : Quiet s (s.startConfirm b c) := by
  obtain h | h := s.startConfirm_cases b c <;> rw [h]
  · exact .refl s
  · exact .modBay s b _ rfl

theorem Quiet.offerBayLast (s : State) (b : BayNo) (c : ChainCmd) : Quiet s (s.offerBayLast b c) :=
  .offer s (.bay b) c (·.startConfirm b c) fun t => .startConfirm t b c

theorem Quiet.bayTaken (s : State) (b : BayNo) (c : ChainCmd) : Quiet s (s.bayTaken b c) := by
  unfold State.bayTaken
  split
  · exact .startConfirm s b c
  · exact ((Quiet.startConfirm s b c).trans (.modBay _ b _ rfl)).trans (.offerBayLast _ b _)

theorem Quiet.beginStep (s : State) (b : BayNo) (c : ChainCmd) (d : Option ChainCmd) : Quiet s (s.beginStep b c d) :=
  ((Quiet.withdraw s (.bay b)).trans (.modBay _ b (fun r => { r with second := d }) rfl)).trans
    (.offer _ (.bay b) c (·.bayTaken b c) fun t => .bayTaken t b c)

/-! ### The Hold Set -/

theorem State.holderOf_eq_none (s : State) (a : Byte) : s.holderOf a = none ↔ ∀ h ∈ s.holds, h.addr ≠ a := by
  simp [State.holderOf]

/-- A hold on an address that no hold has keeps one hold for each address. -/
theorem insertHold_pairwise (h : Hold) : ∀ l : List Hold, l.Pairwise (fun a b => a.addr ≠ b.addr) →
    (∀ x ∈ l, x.addr ≠ h.addr) → (insertHold h l).Pairwise fun a b => a.addr ≠ b.addr
  | [], _, _ => by simp [insertHold]
  | x :: l, hl, hne => by
    obtain ⟨hx, hl⟩ := List.pairwise_cons.1 hl
    unfold insertHold
    split
    · exact List.pairwise_cons.2 ⟨fun y hy => (hne y hy).symm, List.pairwise_cons.2 ⟨hx, hl⟩⟩
    · refine List.pairwise_cons.2 ⟨fun y hy => ?_, insertHold_pairwise h l hl fun y hy => hne y (.tail _ hy)⟩
      obtain rfl | hy := (mem_insertHold h y l).1 hy
      · exact hne x (.head _)
      · exact hx y hy

theorem Quiet.purge (s : State) (a : Byte) (h : Holder) : Quiet s (s.purge a h) :=
  (Quiet.shrinkPort s .chain (fun q => { q with forwardQ := q.forwardQ.filter (!purges a ·) }) le_rfl
    (List.length_filter_le _ _)).trans (.foldl _ (fun t _ => .offerUp t _) _ _)

theorem Quiet.takeHold (s : State) (a : Byte) (h : Holder) : Quiet s (s.takeHold a h) := by
  cases free : s.holderOf a with
  | some h' => rw [s.takeHold_held a h h' free]; exact .refl s
  | none =>
    rw [s.takeHold_free a h free]
    exact (Quiet.setHolds s _ fun one => insertHold_pairwise ⟨a, h⟩ _ one ((s.holderOf_eq_none a).1 free)).trans
      (.purge _ a h)

theorem Quiet.takeTwo (s : State) (x y : Hold) : Quiet s (s.takeTwo x y) := by
  obtain ⟨_, h⟩ | ⟨_, h⟩ := s.takeTwo_cases x y <;> rw [h] <;> exact (Quiet.takeHold s _ _).trans (.takeHold _ _ _)

theorem Quiet.releaseHold (s : State) (a : Byte) (h : Holder) : Quiet s (s.releaseHold a h) :=
  .setHolds s _ fun one => List.Pairwise.filter _ one

theorem Quiet.releaseAll (s : State) (h : Holder) : Quiet s (s.releaseAll h) :=
  .setHolds s _ fun one => List.Pairwise.filter _ one

/-! ### Results and requests -/

theorem Quiet.post (s : State) (r : Result) : Quiet s (s.post r) :=
  (Quiet.setMgmt s { s.mgmt with results := queueResult s.mgmt.results r } id (queueResult_length _ r)).trans (.offerUp _ _)

theorem Quiet.dropRequests (s : State) (keep : Entry → Bool) : Quiet s { s with requests := s.requests.filter keep } :=
  .setRequests s _ fun one => List.Pairwise.filter _ one

theorem Quiet.withdrawalCheck (s : State) (i : StringNo) : Quiet s (s.withdrawalCheck i) := by
  unfold State.withdrawalCheck
  split
  · exact .refl s
  · exact .dropRequests s _

/-! ### The fan (R120, R121) -/

theorem Quiet.offerFan (s : State) (on : Bool) : Quiet s (s.offerFan on) := .offer s .fan _ id fun t => .refl t

theorem Quiet.setFan (s : State) (fan : FanState) (runOn : Timer) :
    Quiet s (s.modGas fun g => { g with fan := fan, runOn := runOn }) := .modFan s _ fun _ => ⟨⟨rfl, rfl, rfl⟩, rfl, rfl⟩

theorem Quiet.fanStart (s : State) : Quiet s s.fanStart :=
  (((Quiet.setFan s .on .stopped).trans (.withdraw _ .fan)).trans (.takeHold _ s.site.fan .fan)).trans (.offerFan _ true)

theorem Quiet.fanStop (s : State) : Quiet s s.fanStop :=
  (((Quiet.setFan s .off .stopped).trans (.withdraw _ .fan)).trans (.offerFan _ false)).trans
    (.releaseHold _ s.site.fan .fan)

theorem Quiet.needArises (s : State) : Quiet s s.needArises := by
  unfold State.needArises
  split
  · exact .fanStart s
  · exact .refl s
  · exact .setFan s _ _

theorem Quiet.needEnds (s : State) : Quiet s s.needEnds := by
  unfold State.needEnds
  split
  · split
    · exact .fanStop s
    · exact .setFan s _ _
  · exact .refl s

theorem Quiet.fanFollow (s : State) (before : Bool) : Quiet s (s.fanFollow before) := by
  unfold State.fanFollow
  split
  · exact .refl s
  · split
    · exact .needEnds s
    · split
      · exact .needArises s
      · exact .refl s

theorem Quiet.noteBayEntry (s : State) : Quiet s s.noteBayEntry := by
  refine .trans ?_ (.fanFollow _ _)
  exact .modFan s _ fun _ => ⟨⟨rfl, rfl, rfl⟩, rfl, rfl⟩

theorem Quiet.noteBayExit (s : State) : Quiet s s.noteBayExit := by
  refine .trans ?_ (.fanFollow _ _)
  exact .modFan s _ fun _ => ⟨⟨rfl, rfl, rfl⟩, rfl, rfl⟩

theorem Quiet.runOnExpired (s : State) : Quiet s s.runOnExpired := by
  unfold State.runOnExpired
  split
  · exact .fanStop s
  · exact .refl s

theorem Quiet.fanMoved (s : State) (old : Byte) : Quiet s (s.fanMoved old) := by
  refine ((Quiet.withdraw s .fan).trans (.releaseHold _ old .fan)).trans ?_
  unfold State.fanMoved
  dsimp only
  split
  · exact .setFan _ _ _
  · split
    · exact (Quiet.takeHold _ _ _).trans (.offerFan _ _)
    · split
      · exact .fanStart _
      · exact .refl _

/-! ### Readings and results of a job -/

theorem Quiet.notePeak (s : State) (b : BayNo) (i : StringNo) : Quiet s (s.notePeak b i) := .modBay s b _ rfl

theorem Quiet.recordEnd (s : State) (b : BayNo) (i : StringNo) (e : EndRec) : Quiet s (s.recordEnd b i e) :=
  (Quiet.modBay s b _ rfl).trans (.notePeak _ b i)

theorem Quiet.noteMean (s : State) (i : StringNo) : Quiet s (s.noteMean i) := by
  unfold State.noteMean
  split
  · exact .refl s
  · exact .modRun s i _ fun _ => ⟨rfl, rfl⟩

theorem Quiet.newSetpoint (s : State) (b : BayNo) (i : StringNo) : Quiet s (s.newSetpoint b i) :=
  (Quiet.noteMean s i).trans (.modBay _ b _ rfl)

theorem Quiet.reportEnd (s : State) (i : StringNo) (e : EndRec) : Quiet s (s.reportEnd i e) := by
  unfold State.reportEnd
  split
  · exact .modRun s i _ fun _ => ⟨rfl, rfl⟩
  · split
    · exact .refl s
    · exact .modRun s i _ fun _ => ⟨rfl, rfl⟩

theorem Quiet.postEqualise (s : State) (b : BayNo) (i : StringNo) (isolated : Bool) (elapsed : Nat) :
    Quiet s (s.postEqualise b i isolated elapsed) := (Quiet.post s _).trans (.reportEnd _ i _)

/-! ### The openings of a round -/

theorem Quiet.openTaken (s : State) : Quiet s s.openTaken :=
  .modRound s _ (by split <;> exact ⟨rfl, rfl⟩)

theorem Quiet.openFill (s : State) (i : StringNo) (p : Position) (rest : List Position) : Quiet s (s.openFill i p rest) := by
  unfold State.openFill
  split
  · exact .refl s
  · refine .trans ?_ (.offer _ .watering _ (·.openTaken) fun t => .openTaken t)
    exact .modRound s _ ⟨rfl, rfl⟩

/-! ### Sweeps (R41) -/

theorem Quiet.noteAsked (s : State) (i : StringNo) (a : Byte) : Quiet s (s.noteAsked i a) :=
  .modRun s i _ fun _ => ⟨rfl, rfl⟩

theorem Quiet.sweepAsk : ∀ (n : Nat) (i : StringNo) (s : State), Quiet s (s.sweepAsk n i)
  | 0, _, s => .refl s
  | n + 1, i, s => by
    unfold State.sweepAsk
    split
    · exact .refl s
    · exact .offer s _ _ (fun t => (t.noteAsked i _).sweepAsk n i) fun t => (Quiet.noteAsked t i _).trans (.sweepAsk n i _)

theorem Quiet.sweepNext (s : State) (i : StringNo) : Quiet s (s.sweepNext i) := .sweepAsk _ i s

theorem Quiet.stopSweep (s : State) (i : StringNo) : Quiet s (s.stopSweep i) :=
  (Quiet.withdraw s _).trans (.modRun _ i _ fun _ => ⟨rfl, rfl⟩)

end Sys2Proof.Machine
end

section
/-! PROOF. What the laws of the budget and of the links say of a skeleton, and that no move breaks them. -/

namespace Sys2Proof.Machine

open Sys2Proof

/-! ## The laws over a skeleton -/

/-- `BaysLinked`, over the skeleton. -/
structure Skeleton.Linked (k : Skeleton) : Prop where
  names : ∀ b i, (k.bay b).string = some i ↔ (k.str i).bay = some b
  free : ∀ b, (k.bay b).state = .free ↔ (k.bay b).string = none
  busy : ∀ b i, (k.bay b).string = some i → (k.bay b).state = .busy → (k.str i).state.served
  blocked : ∀ b i, (k.bay b).string = some i → (k.bay b).state = .blocked → (k.str i).state = .isolated
  served : ∀ i, (k.str i).state.served ∨ (k.str i).state = .isolated → (k.str i).bay ≠ none
  inUse : (k.bay 1).state ≠ .free → k.bayCount = 2
  watered : ∀ i, k.watered = some i ↔ (k.str i).state = .watering
  idle : k.round = .idle ↔ k.watered = none

theorem State.linked_skeleton_iff (s : State) : s.skeleton.Linked ↔ BaysLinked s := by
  have hserved : ∀ x : StringState, x.served ∨ x = .isolated ↔
      x ∈ [StringState.baseline, .transferOut, .equalising, .held, .transferBack, .isolated] := by
    intro x; cases x <;> simp [StringState.served]
  constructor
  · rintro ⟨names, free, busy, blocked, served, inUse, watered, idle⟩
    exact ⟨names, free, busy, blocked, fun i h => served i ((hserved _).2 h), inUse, watered, idle⟩
  · rintro ⟨names, free, busy, blocked, served, inUse, watered, idle⟩
    exact ⟨names, free, busy, blocked, fun i h => served i ((hserved _).1 h), inUse, watered, idle⟩

theorem State.load_skeleton (s : State) : s.skeleton.load = s.busySum := rfl

theorem State.withinBudget_iff (s : State) : WithinBudget s ↔ s.skeleton.load ≤ s.skeleton.budget * 100 := Iff.rfl

/-! ## The skeleton's tables -/

section
variable (k : Skeleton) (b : BayNo) (i : StringNo) (l : BayLink) (x : StringLink) (st : RoundState) (w : Option StringNo)

@[simp] theorem Skeleton.bay_setBay : (k.setBay b l).bay b = l := Function.update_self ..
@[simp] theorem Skeleton.str_setStr : (k.setStr i x).str i = x := Function.update_self ..
@[simp] theorem Skeleton.bay_setStr : (k.setStr i x).bay = k.bay := rfl
@[simp] theorem Skeleton.str_setBay : (k.setBay b l).str = k.str := rfl
@[simp] theorem Skeleton.round_setStr : (k.setStr i x).round = k.round := rfl
@[simp] theorem Skeleton.round_setBay : (k.setBay b l).round = k.round := rfl
@[simp] theorem Skeleton.watered_setStr : (k.setStr i x).watered = k.watered := rfl
@[simp] theorem Skeleton.watered_setBay : (k.setBay b l).watered = k.watered := rfl
@[simp] theorem Skeleton.bayCount_setStr : (k.setStr i x).bayCount = k.bayCount := rfl
@[simp] theorem Skeleton.bayCount_setBay : (k.setBay b l).bayCount = k.bayCount := rfl
@[simp] theorem Skeleton.budget_setStr : (k.setStr i x).budget = k.budget := rfl
@[simp] theorem Skeleton.budget_setBay : (k.setBay b l).budget = k.budget := rfl
@[simp] theorem Skeleton.bay_setRound : (k.setRound st w).bay = k.bay := rfl
@[simp] theorem Skeleton.str_setRound : (k.setRound st w).str = k.str := rfl
@[simp] theorem Skeleton.round_setRound : (k.setRound st w).round = st := rfl
@[simp] theorem Skeleton.watered_setRound : (k.setRound st w).watered = w := rfl
@[simp] theorem Skeleton.bayCount_setRound : (k.setRound st w).bayCount = k.bayCount := rfl
@[simp] theorem Skeleton.budget_setRound : (k.setRound st w).budget = k.budget := rfl
@[simp] theorem Skeleton.setStr_setStr (y : StringLink) : (k.setStr i x).setStr i y = k.setStr i y := by
  simp [Skeleton.setStr]
@[simp] theorem Skeleton.setBay_setBay (m : BayLink) : (k.setBay b l).setBay b m = k.setBay b m := by
  simp [Skeleton.setBay]

variable {b i}
theorem Skeleton.bay_setBay_ne {c : BayNo} (h : c ≠ b) : (k.setBay b l).bay c = k.bay c := Function.update_of_ne h ..
theorem Skeleton.str_setStr_ne {j : StringNo} (h : j ≠ i) : (k.setStr i x).str j = k.str j := Function.update_of_ne h ..

end

/-! ## No move breaks the budget (R55) -/

@[simp] theorem Skeleton.load_setStr (k : Skeleton) (i : StringNo) (x : StringLink) : (k.setStr i x).load = k.load := rfl
@[simp] theorem Skeleton.load_setRound (k : Skeleton) (st : RoundState) (w : Option StringNo) :
    (k.setRound st w).load = k.load := rfl

/-- The sum with one bay replaced. -/
theorem Skeleton.load_setBay (k : Skeleton) (b : BayNo) (l : BayLink) :
    (k.setBay b l).load + (k.bay b).load = k.load + l.load := by
  unfold Skeleton.load
  match b with
  | 0 =>
    rw [Skeleton.bay_setBay, Skeleton.bay_setBay_ne k l (by decide : (1 : BayNo) ≠ 0)]
    omega
  | 1 =>
    rw [Skeleton.bay_setBay, Skeleton.bay_setBay_ne k l (by decide : (0 : BayNo) ≠ 1)]
    omega

theorem BayLink.load_of_not_busy {l : BayLink} (h : l.state ≠ .busy) : l.load = 0 := if_neg h

theorem Skeleton.Move.withinBudget {k m : Skeleton} (h : k.Move m) (hk : k.load ≤ k.budget * 100) :
    m.load ≤ m.budget * 100 := by
  induction h with
  | refl => exact hk
  | trans _ _ ih ih' => exact ih' (ih hk)
  | advance | loosen | release | water | ending | dry | empty => exact hk
  | free k b i st =>
    have h := k.load_setBay b ⟨.free, none, 0⟩
    rw [BayLink.load_of_not_busy (l := ⟨.free, none, 0⟩) (by simp)] at h
    simp only [Skeleton.load_setStr, Skeleton.budget_setStr, Skeleton.budget_setBay]
    omega
  | block k b i =>
    have h := k.load_setBay b ⟨.blocked, (k.bay b).string, (k.bay b).limit⟩
    rw [BayLink.load_of_not_busy (l := ⟨.blocked, _, _⟩) (by simp)] at h
    simp only [Skeleton.load_setStr, Skeleton.budget_setStr, Skeleton.budget_setBay]
    omega
  | grant k b i limit bay string inUse covered =>
    have h := k.load_setBay b ⟨.busy, some i, limit⟩
    rw [BayLink.load_of_not_busy (l := k.bay b) (by simp [bay])] at h
    have hlimit : BayLink.load ⟨.busy, some i, limit⟩ = limit := rfl
    simp only [Skeleton.load_setStr, Skeleton.budget_setStr, Skeleton.budget_setBay]
    omega
  | site k bayCount budget bays covered => exact covered

/-! ## No move parts strings, bays and round -/

namespace Skeleton.Linked

variable {k : Skeleton} {b : BayNo} {i : StringNo} {st : StringState}

/-- The two ways in which a bay and a string are linked are one. -/
theorem link_iff (h : k.Linked) : (k.bay b).string = some i ∨ (k.str i).bay = some b ↔ (k.bay b).string = some i := by
  rw [← h.names]; exact or_self_iff

/-- The string of a bay is in BASELINE to TRANSFER_BACK, or ISOLATED. -/
theorem state_of_link (h : k.Linked) (hl : (k.bay b).string = some i) :
    (k.str i).state.served ∨ (k.str i).state = .isolated := by
  cases hb : (k.bay b).state with
  | free => exact absurd ((h.free b).1 hb) (by simp [hl])
  | busy => exact .inl (h.busy b i hl hb)
  | blocked => exact .inr (h.blocked b i hl hb)

theorem unbound_of_state (h : k.Linked) (hs : ¬((k.str i).state.served ∨ (k.str i).state = .isolated)) :
    (k.str i).bay = none := by
  rw [Option.eq_none_iff_forall_ne_some]
  intro b hb
  exact hs (h.state_of_link ((h.names b i).2 hb))

theorem not_watered_of_link (h : k.Linked) (hl : (k.bay b).string = some i) : k.watered ≠ some i := by
  rw [Ne, h.watered]
  intro hw
  obtain hs | hs := h.state_of_link hl <;> rw [hw] at hs
  · simp [StringState.served] at hs
  · cases hs

/-- A string changes its state, its bay and the round staying. -/
theorem setState (h : k.Linked)
    (busy : ∀ b, (k.bay b).string = some i → (k.bay b).state = .busy → st.served)
    (blocked : ∀ b, (k.bay b).string = some i → (k.bay b).state = .blocked → st = .isolated)
    (served : st.served ∨ st = .isolated → (k.str i).bay ≠ none)
    (watered : k.watered = some i ↔ st = .watering) : (k.setStr i ⟨st, (k.str i).bay⟩).Linked := by
  have hbay : ∀ j, ((k.setStr i ⟨st, (k.str i).bay⟩).str j).bay = (k.str j).bay := by
    intro j
    by_cases e : j = i
    · subst e; simp
    · rw [k.str_setStr_ne _ e]
  refine ⟨fun b j => ?_, h.free, fun b j => ?_, fun b j => ?_, fun j => ?_, h.inUse, fun j => ?_, h.idle⟩
  · rw [hbay]; exact h.names b j
  all_goals by_cases e : j = i
  · subst e; simpa using busy b
  · rw [k.str_setStr_ne _ e]; exact h.busy b j
  · subst e; simpa using blocked b
  · rw [k.str_setStr_ne _ e]; exact h.blocked b j
  · subst e; simpa using served
  · rw [k.str_setStr_ne _ e]; exact h.served j
  · subst e; simpa using watered
  · rw [k.str_setStr_ne _ e]; exact h.watered j

/-- A string without bay that keeps none changes its state, and the round with it. -/
theorem setRound (h : k.Linked) {rs : RoundState} {w : Option StringNo} (bare : (k.str i).bay = none)
    (loose : ¬(st.served ∨ st = .isolated)) (own : w = some i ↔ st = .watering)
    (others : ∀ j, j ≠ i → (w = some j ↔ k.watered = some j)) (idle : rs = .idle ↔ w = none) :
    ((k.setRound rs w).setStr i ⟨st, (k.str i).bay⟩).Linked := by
  have hstr : ∀ j, j ≠ i → ((k.setRound rs w).setStr i ⟨st, (k.str i).bay⟩).str j = k.str j := fun j e =>
    Skeleton.str_setStr_ne (k.setRound rs w) _ e
  have hlink : ∀ b, (k.bay b).string ≠ some i := fun b hl => by rw [h.names, bare] at hl; cases hl
  refine ⟨fun b j => ?_, h.free, fun b j => ?_, fun b j => ?_, fun j => ?_, h.inUse, fun j => ?_, idle⟩
  all_goals by_cases e : j = i
  · subst e; simpa using h.names b j
  · rw [hstr j e]; exact h.names b j
  · subst e; exact fun hl => absurd hl (hlink b)
  · rw [hstr j e]; exact h.busy b j
  · subst e; exact fun hl => absurd hl (hlink b)
  · rw [hstr j e]; exact h.blocked b j
  · subst e; simpa using fun hs => absurd hs loose
  · rw [hstr j e]; exact h.served j
  · subst e; simpa using own
  · rw [hstr j e]; exact (others j e).trans (h.watered j)

/-- A string leaves its bay for a state without one. -/
theorem freed (h : k.Linked) (hl : (k.bay b).string = some i) (new : st.loose) :
    ((k.setBay b ⟨.free, none, 0⟩).setStr i ⟨st, none⟩).Linked := by
  have hst : ¬(st.served ∨ st = .isolated) ∧ st ≠ .watering := by
    obtain rfl | rfl | rfl := new <;> simp [StringState.served]
  have hstr : ∀ j, j ≠ i → ((k.setBay b ⟨.free, none, 0⟩).setStr i ⟨st, none⟩).str j = k.str j := fun j e =>
    Skeleton.str_setStr_ne (k.setBay b _) _ e
  have hbay : ∀ c, c ≠ b → ((k.setBay b ⟨.free, none, 0⟩).setStr i ⟨st, none⟩).bay c = k.bay c := fun c e =>
    k.bay_setBay_ne _ e
  have hone : ∀ c j, (k.bay c).string = some j → (c = b ↔ j = i) := fun c j hc => by
    constructor
    · rintro rfl; exact Option.some.inj (hc.symm.trans hl)
    · rintro rfl; exact Option.some.inj (((h.names c j).1 hc).symm.trans ((h.names b j).1 hl))
  have htrade : ∀ c j (P : Prop), (c ≠ b → j ≠ i → (k.bay c).string = some j → P) →
      (((k.setBay b ⟨.free, none, 0⟩).setStr i ⟨st, none⟩).bay c).string = some j → P := by
    intro c j P hP hc
    by_cases e : c = b
    · subst e; simp at hc
    · rw [hbay c e] at hc
      exact hP e (fun ej => e ((hone c j hc).2 ej)) hc
  refine ⟨fun c j => ⟨fun hc => ?_, fun hj => ?_⟩, fun c => ?_, fun c j hc => ?_, fun c j hc => ?_, fun j => ?_, fun hc => ?_,
    fun j => ?_, h.idle⟩
  · exact htrade c j _ (fun _ ej hc' => by rw [hstr j ej]; exact (h.names c j).1 hc') hc
  · by_cases ej : j = i
    · subst ej; simp at hj
    · rw [hstr j ej] at hj
      have hc := (h.names c j).2 hj
      rw [hbay c fun ec => ej ((hone c j hc).1 ec)]
      exact hc
  · by_cases ec : c = b
    · subst ec; simp
    · rw [hbay c ec]; exact h.free c
  · exact htrade c j _ (fun ec ej hc' => by rw [hbay c ec, hstr j ej]; exact h.busy c j hc') hc
  · exact htrade c j _ (fun ec ej hc' => by rw [hbay c ec, hstr j ej]; exact h.blocked c j hc') hc
  · by_cases ej : j = i
    · subst ej; rw [Skeleton.str_setStr]; exact fun hs => absurd hs hst.1
    · rw [hstr j ej]; exact h.served j
  · by_cases ec : 1 = b
    · subst ec; simp at hc
    · rw [hbay 1 ec] at hc; exact h.inUse hc
  · by_cases ej : j = i
    · subst ej; simpa [hst.2] using h.not_watered_of_link hl
    · rw [hstr j ej]; exact h.watered j

/-- A linked string and its bay change their states together. -/
theorem setStates (h : k.Linked) (hl : (k.bay b).string = some i) {bs : BayState} {limit : Nat} (held : bs ≠ .free)
    (busy : bs = .busy → st.served) (blocked : bs = .blocked → st = .isolated) (dry : st ≠ .watering) :
    ((k.setBay b ⟨bs, (k.bay b).string, limit⟩).setStr i ⟨st, (k.str i).bay⟩).Linked := by
  set m := (k.setBay b ⟨bs, (k.bay b).string, limit⟩).setStr i ⟨st, (k.str i).bay⟩ with hm
  have hstring : ∀ c, (m.bay c).string = (k.bay c).string := fun c => by
    by_cases e : c = b
    · subst e; simp [hm]
    · rw [hm, Skeleton.bay_setStr, k.bay_setBay_ne _ e]
  have hbay : ∀ j, (m.str j).bay = (k.str j).bay := fun j => by
    by_cases e : j = i
    · subst e; simp [hm]
    · rw [hm, Skeleton.str_setStr_ne _ _ e]; rfl
  have hwhole : ∀ j, j ≠ i → m.str j = k.str j := fun j e => Skeleton.str_setStr_ne (k.setBay b _) _ e
  have hcon : ∀ c, c ≠ b → m.bay c = k.bay c := fun c e => k.bay_setBay_ne _ e
  have hone : ∀ c j, (m.bay c).string = some j → (c = b ∧ j = i) ∨ (c ≠ b ∧ j ≠ i) := fun c j hc => by
    rw [hstring] at hc
    by_cases e : c = b
    · exact .inl ⟨e, Option.some.inj ((e ▸ hc).symm.trans hl)⟩
    · refine .inr ⟨e, fun ej => e ?_⟩
      exact Option.some.inj (((h.names c j).1 hc).symm.trans (ej ▸ (h.names b i).1 hl))
  refine ⟨fun c j => by rw [hstring, hbay]; exact h.names c j, fun c => ?_, fun c j hc hs => ?_, fun c j hc hs => ?_,
    fun j => ?_, fun hc => ?_, fun j => ?_, h.idle⟩
  · by_cases e : c = b
    · subst e; simp [hm, hl, held]
    · rw [hcon c e]; exact h.free c
  · obtain ⟨rfl, rfl⟩ | ⟨ec, ej⟩ := hone c j hc
    · simpa [hm] using busy (by simpa [hm] using hs)
    · rw [hwhole j ej]; rw [hcon c ec] at hc hs; exact h.busy c j hc hs
  · obtain ⟨rfl, rfl⟩ | ⟨ec, ej⟩ := hone c j hc
    · simpa [hm] using blocked (by simpa [hm] using hs)
    · rw [hwhole j ej]; rw [hcon c ec] at hc hs; exact h.blocked c j hc hs
  · by_cases e : j = i
    · subst e; rw [hbay]; simp [(h.names b j).1 hl]
    · rw [hwhole j e]; exact h.served j
  · by_cases e : 1 = b
    · subst e
      exact h.inUse fun hf => by rw [h.free, hl] at hf; cases hf
    · rw [hcon 1 e] at hc; exact h.inUse hc
  · by_cases e : j = i
    · subst e; simpa [hm, dry] using h.not_watered_of_link hl
    · rw [hwhole j e]; exact h.watered j

/-- A FREE bay takes a string that has none. -/
theorem granted (h : k.Linked) {limit : Nat} (bay : (k.bay b).state = .free) (string : (k.str i).state = .float)
    (inUse : b = 0 ∨ k.bayCount = 2) :
    ((k.setBay b ⟨.busy, some i, limit⟩).setStr i ⟨.baseline, some b⟩).Linked := by
  have bare : (k.str i).bay = none := h.unbound_of_state (by simp [string, StringState.served])
  have hnone : (k.bay b).string = none := (h.free b).1 bay
  set m := (k.setBay b ⟨.busy, some i, limit⟩).setStr i ⟨.baseline, some b⟩ with hm
  have hstr : ∀ j, j ≠ i → m.str j = k.str j := fun j e => Skeleton.str_setStr_ne (k.setBay b _) _ e
  have hbay : ∀ c, c ≠ b → m.bay c = k.bay c := fun c e => k.bay_setBay_ne _ e
  have hold : ∀ c j, (k.bay c).string = some j → c ≠ b ∧ j ≠ i := fun c j hc => by
    refine ⟨?_, ?_⟩
    · rintro rfl; rw [hnone] at hc; cases hc
    · rintro rfl; rw [h.names, bare] at hc; cases hc
  have hone : ∀ c j, (m.bay c).string = some j → (c = b ∧ j = i) ∨ (c ≠ b ∧ j ≠ i ∧ (k.bay c).string = some j) := by
    intro c j hc
    by_cases e : c = b
    · subst e; simp [hm] at hc; exact .inl ⟨rfl, hc.symm⟩
    · rw [hbay c e] at hc; exact .inr ⟨e, (hold c j hc).2, hc⟩
  refine ⟨fun c j => ⟨fun hc => ?_, fun hj => ?_⟩, fun c => ?_, fun c j hc hs => ?_, fun c j hc hs => ?_, fun j hs => ?_,
    fun hc => ?_, fun j => ?_, h.idle⟩
  · obtain ⟨rfl, rfl⟩ | ⟨ec, ej, hc⟩ := hone c j hc
    · simp [hm]
    · rw [hstr j ej]; exact (h.names c j).1 hc
  · by_cases ej : j = i
    · subst ej; simp [hm] at hj; subst hj; simp [hm]
    · rw [hstr j ej] at hj
      have hc := (h.names c j).2 hj
      rw [hbay c (hold c j hc).1]; exact hc
  · by_cases ec : c = b
    · subst ec; simp [hm]
    · rw [hbay c ec]; exact h.free c
  · obtain ⟨rfl, rfl⟩ | ⟨ec, ej, hc⟩ := hone c j hc
    · simp [hm, StringState.served]
    · rw [hbay c ec] at hs; rw [hstr j ej]; exact h.busy c j hc hs
  · obtain ⟨rfl, rfl⟩ | ⟨ec, ej, hc⟩ := hone c j hc
    · simp [hm] at hs
    · rw [hbay c ec] at hs; rw [hstr j ej]; exact h.blocked c j hc hs
  · by_cases ej : j = i
    · subst ej; simp [hm]
    · rw [hstr j ej] at hs ⊢; exact h.served j hs
  · by_cases ec : 1 = b
    · subst ec; exact inUse.resolve_left (by decide)
    · rw [hbay 1 ec] at hc; exact h.inUse hc
  · by_cases ej : j = i
    · subst ej
      have : k.watered ≠ some j := fun hw => by rw [h.watered, string] at hw; cases hw
      simpa [hm] using this
    · rw [hstr j ej]; exact h.watered j

end Skeleton.Linked

theorem Skeleton.Move.linked {k m : Skeleton} (h : k.Move m) (hk : k.Linked) : m.Linked := by
  induction h with
  | refl => exact hk
  | trans _ _ ih ih' => exact ih' (ih hk)
  | advance k i st old new =>
    refine hk.setState (fun _ _ _ => new) (fun b hl hb => ?_) (fun _ => hk.served i (.inl old)) ?_
    · rw [hk.blocked b i hl hb] at old; simp [StringState.served] at old
    · have hold : (k.str i).state ≠ .watering := fun e => by rw [e] at old; simp [StringState.served] at old
      have hnew : st ≠ .watering := fun e => by rw [e] at new; simp [StringState.served] at new
      simp [hk.watered, hold, hnew]
  | loosen k i st old new =>
    have hloose : ∀ x : StringState, x.loose → ¬(x.served ∨ x = .isolated) ∧ x ≠ .watering := by
      rintro _ (rfl | rfl | rfl) <;> simp [StringState.served]
    have hno : ∀ b, (k.bay b).string ≠ some i := fun b hl => (hloose _ old).1 (hk.state_of_link hl)
    exact hk.setState (fun b hl => absurd hl (hno b)) (fun b hl => absurd hl (hno b))
      (fun hs => absurd hs (hloose _ new).1) (by simp [hk.watered, (hloose _ old).2, (hloose _ new).2])
  | release k i old bay => exact absurd bay (hk.served i (.inr old))
  | free k b i st linked new => exact hk.freed (hk.link_iff.1 linked) new
  | block k b i linked =>
    exact hk.setStates (hk.link_iff.1 linked) (by simp) (fun e => by cases e) (fun _ => rfl) (by simp)
  | grant k b i limit bay string inUse => exact hk.granted bay string inUse
  | water k i round string =>
    have bare : (k.str i).bay = none := hk.unbound_of_state (by simp [string, StringState.served])
    have hnone := hk.idle.1 round
    exact hk.setRound bare (by simp [StringState.served]) (by simp)
      (fun j e => by simp [hnone, e.symm]) (by simp)
  | ending k round =>
    have hsome : k.watered ≠ none := fun e => by rw [← hk.idle, round] at e; cases e
    exact ⟨hk.names, hk.free, hk.busy, hk.blocked, hk.served, hk.inUse, hk.watered, by simpa using hsome⟩
  | dry k i string =>
    have hstate := (hk.watered i).1 string
    have bare : (k.str i).bay = none := hk.unbound_of_state (by simp [hstate, StringState.served])
    exact hk.setRound bare (by simp [StringState.served]) (by simp)
      (fun j e => by simp [string, e.symm]) (by simp)
  | empty k string =>
    refine ⟨hk.names, hk.free, hk.busy, hk.blocked, hk.served, hk.inUse, fun i => ?_, by simp⟩
    have := hk.watered i
    rwa [string] at this
  | site k bayCount budget bays =>
    refine ⟨hk.names, hk.free, hk.busy, hk.blocked, hk.served, fun hb => ?_, hk.watered, hk.idle⟩
    obtain rfl | hfree := bays
    · exact hk.inUse hb
    · exact absurd (hfree 1) hb

end Sys2Proof.Machine
end

section
/-! PROOF. The engines move the skeleton only in the ways of `Skeleton.Move`: the jobs (R82 to R111), the gas state (R112 to
R123), the rounds (R124 to R149) and the grants (R62 to R81). -/

namespace Sys2Proof.Machine

open Sys2Proof

/-! ## Moves -/

/-- STAT follows the gas state and the isolated count (R122). -/
def Gas.StatOk (g : Gas) : Prop := g.stat = true ↔ g.state ≠ .normal ∨ 0 < g.isolated

/-- STAT and its causes are left alone, or STAT is driven by them. -/
def Gas.Drives (g h : Gas) : Prop := g.SameStat h ∨ h.StatOk

theorem Gas.SameStat.statOk {g h : Gas} (a : g.SameStat h) (ok : g.StatOk) : h.StatOk := by
  unfold Gas.StatOk at *
  rw [a.stat, a.state, a.isolated]
  exact ok

theorem Gas.Drives.trans {g h k : Gas} (a : g.Drives h) (b : h.Drives k) : g.Drives k := by
  obtain b | b := b
  · exact a.imp (·.trans b) b.statOk
  · exact .inr b

theorem Gas.Drives.statOk {g h : Gas} (a : g.Drives h) (ok : g.StatOk) : h.StatOk := a.elim (·.statOk ok) id

theorem Gas.statOk_driveStat (g : Gas) : g.driveStat.StatOk := by
  simp [Gas.StatOk, Gas.driveStat]

/-- The operation keeps the bounds, and STAT with its causes or drives it. -/
structure Calm (s t : State) : Prop where
  bounds : Bounds s → Bounds t
  drives : s.gas.Drives t.gas

/-- The operation keeps the bounds, STAT as its causes ask, and moves the skeleton as the manual allows. -/
structure Moves (s t : State) : Prop extends Calm s t where
  move : s.skeleton.Move t.skeleton

theorem Calm.trans {s t u : State} (a : Calm s t) (b : Calm t u) : Calm s u :=
  ⟨b.bounds ∘ a.bounds, a.drives.trans b.drives⟩

theorem Quiet.calm {s t : State} (h : Quiet s t) : Calm s t := ⟨h.bounds, .inl h.stat⟩

theorem Moves.refl (s : State) : Moves s s := ⟨(Quiet.refl s).calm, .refl _⟩

theorem Moves.trans {s t u : State} (a : Moves s t) (b : Moves t u) : Moves s u :=
  ⟨a.toCalm.trans b.toCalm, a.move.trans b.move⟩

theorem Moves.foldl {α : Type} (f : State → α → State) (step : ∀ s a, Moves s (f s a)) (l : List α) (s : State) :
    Moves s (l.foldl f s) :=
  foldl_keeps (Moves s) f (fun t a h => h.trans (step t a)) l s (.refl s)

/-- A calm operation whose skeleton is known. -/
theorem Calm.moves {s t : State} (h : Calm s t) {m : Skeleton} (move : s.skeleton.Move m) (eq : t.skeleton = m) : Moves s t :=
  ⟨h, eq ▸ move⟩

theorem Quiet.moves {s t : State} (h : Quiet s t) : Moves s t := h.calm.moves (.refl _) h.skeleton

theorem Calm.still {s t : State} (h : Calm s t) (eq : t.skeleton = s.skeleton) : Moves s t := h.moves (.refl _) eq

theorem Quiet.state_eq {s t : State} (h : Quiet s t) (i : StringNo) : (t.str i).state = (s.str i).state :=
  congrArg (fun k => (k.str i).state) h.skeleton

theorem Quiet.bay_eq {s t : State} (h : Quiet s t) (i : StringNo) : (t.str i).bay = (s.str i).bay :=
  congrArg (fun k => (k.str i).bay) h.skeleton

theorem Quiet.string_eq {s t : State} (h : Quiet s t) (b : BayNo) : (t.bay b).string = (s.bay b).string :=
  congrArg (fun k => (k.bay b).string) h.skeleton

/-- An operation that is made on a condition. -/
theorem Moves.ite (s t : State) (c : Prop) [Decidable c] (h : c → Moves s t) : Moves s (if c then t else s) := by
  split
  · exact h ‹_›
  · exact .refl s

/-! ### The updates of linked fields -/

theorem Calm.setBay (s : State) (b : BayNo) (r : Bay) : Calm s (s.setBay b r) :=
  ⟨fun h => ⟨h.fp, h.input, h.results, h.requests, h.holds, h.strings, h.gas⟩, .inl (.refl _)⟩

theorem Calm.modBay (s : State) (b : BayNo) (f : Bay → Bay) : Calm s (s.modBay b f) := .setBay s b _

theorem Calm.modWater (s : State) (f : Watering → Watering) : Calm s (s.modWater f) :=
  ⟨fun h => ⟨h.fp, h.input, h.results, h.requests, h.holds, h.strings, h.gas⟩, .inl (.refl _)⟩

theorem Calm.modRound (s : State) (f : Round → Round) : Calm s (s.modRound f) := .modWater s _

theorem Calm.trigger (s : State) : Calm s s.trigger :=
  ⟨fun h => ⟨h.fp, h.input, h.results, h.requests, h.holds, h.strings, h.gas⟩, .inl (.refl _)⟩

/-- A change of a string record outside its cells. -/
theorem Calm.modRun (s : State) (i : StringNo) (f : StringRec → StringRec) (h : ∀ r, (f r).cells = r.cells) :
    Calm s (s.modStr i f) := by
  refine ⟨fun b => ⟨b.fp, b.input, b.results, b.requests, b.holds, fun j => ?_, b.gas⟩, .inl (.refl _)⟩
  by_cases e : j = i
  · subst e
    rw [s.str_modStr]
    intro p
    have : (f (s.str j)).cell p = (s.str j).cell p := by unfold StringRec.cell; rw [h]
    rw [this]; exact b.strings j p
  · rw [s.str_modStr_ne i j f e]; exact b.strings j

theorem Moves.trigger (s : State) : Moves s s.trigger := (Calm.trigger s).still rfl

theorem Calm.enterFloat (s : State) (i : StringNo) : Calm s (s.enterFloat i) := by
  refine .trans ?_ (.trigger _)
  exact .modRun s i _ fun _ => rfl

@[simp] theorem State.skeleton_trigger (s : State) : s.trigger.skeleton = s.skeleton := rfl

theorem State.skeleton_enterFloat (s : State) (i : StringNo) :
    (s.enterFloat i).skeleton = s.skeleton.setStr i ⟨.float, (s.str i).bay⟩ :=
  s.skeleton_modStr i fun r => { r with state := .float }

/-- A job goes on. -/
theorem Moves.advance (s : State) (i : StringNo) (st : StringState) (old : (s.str i).state.served) (new : st.served) :
    Moves s (s.modStr i fun r => { r with state := st }) := by
  refine Calm.moves ?_ (.advance _ i st old new) (s.skeleton_modStr i _)
  exact .modRun s i _ fun _ => rfl

/-- A string without bay or round goes from one such state to another, with other run fields. -/
theorem Moves.loosen (s : State) (i : StringNo) (f : StringRec → StringRec) (old : (s.str i).state.loose)
    (new : (f (s.str i)).state.loose) (bay : (f (s.str i)).bay = (s.str i).bay) (cells : ∀ r, (f r).cells = r.cells) :
    Moves s (s.modStr i f) :=
  (Calm.modRun s i f cells).moves (.loosen _ i _ old new) ((s.skeleton_modStr i f).trans (by
    unfold StringRec.link; rw [bay]; rfl))

/-! ## Jobs -/

theorem Calm.freeBay (s : State) (b : BayNo) (i : StringNo) : Calm s (s.freeBay b i) := by
  have h : Calm s ((((s.releaseHold (s.str i).cfg.switch (.switch i)).setBay b {}).modStr i
      fun r => { r with bay := none }).trigger) := by
    refine .trans ?_ (.trigger _)
    refine .trans ?_ (.modRun _ i _ fun _ => rfl)
    exact (Quiet.releaseHold s _ _).calm.trans (.setBay _ b {})
  unfold State.freeBay
  dsimp only
  split
  · exact h.trans (Quiet.releaseHold _ _ _).calm
  · exact h

theorem State.skeleton_freeBay (s : State) (b : BayNo) (i : StringNo) :
    (s.freeBay b i).skeleton = (s.skeleton.setBay b ⟨.free, none, 0⟩).setStr i ⟨(s.str i).state, none⟩ := by
  have h : ((((s.releaseHold (s.str i).cfg.switch (.switch i)).setBay b {}).modStr i
      fun r => { r with bay := none }).trigger).skeleton =
        (s.skeleton.setBay b ⟨.free, none, 0⟩).setStr i ⟨(s.str i).state, none⟩ := by
    rw [State.skeleton_trigger, State.skeleton_modStr, State.skeleton_setBay, (Quiet.releaseHold s _ _).skeleton]
    rfl
  unfold State.freeBay
  dsimp only
  split
  · exact (Quiet.releaseHold _ _ _).skeleton.trans h
  · exact h

theorem State.str_freeBay_bay (s : State) (b : BayNo) (i : StringNo) : ((s.freeBay b i).str i).bay = none := by
  have h := congrArg (fun k => (k.str i).bay) (s.skeleton_freeBay b i)
  rwa [Skeleton.str_setStr] at h

/-- A freed bay, its string entering FLOAT. -/
theorem Moves.freeBay_float (s : State) (b : BayNo) (i : StringNo)
    (linked : (s.bay b).string = some i ∨ (s.str i).bay = some b) : Moves s ((s.freeBay b i).enterFloat i) :=
  ((Calm.freeBay s b i).trans (.enterFloat _ i)).moves (.free _ b i .float linked (.inr (.inl rfl)))
    (by rw [State.skeleton_enterFloat, State.skeleton_freeBay, State.str_freeBay_bay, Skeleton.setStr_setStr])

theorem Moves.endInBaseline (s : State) (b : BayNo) (i : StringNo) (e : EndRec) (elapsed : Nat)
    (linked : (s.bay b).string = some i) : Moves s (s.endInBaseline b i e elapsed) := by
  have quiet : Quiet s ((s.recordEnd b i e).postEqualise b i false elapsed) :=
    (Quiet.recordEnd s b i e).trans (.postEqualise _ b i false elapsed)
  exact (quiet.moves.trans (.freeBay_float _ b i (.inl ((quiet.string_eq b).trans linked)))).trans
    (Quiet.noteBayExit _).moves

theorem Moves.endToTransferBack (s : State) (b : BayNo) (i : StringNo) (e : EndRec) (old : (s.str i).state.served) :
    Moves s (s.endToTransferBack b i e) := by
  unfold State.endToTransferBack State.backStep
  refine .trans ?_ (Quiet.beginStep _ _ _ _).moves
  have quiet : Quiet s ((s.recordEnd b i e).modBay b fun r =>
      { r with window := .stopped, duration := .stopped, hold := .stopped, sample := .stopped, confirm := .stopped }) :=
    (Quiet.recordEnd s b i e).trans (.modBay _ b _ rfl)
  exact quiet.moves.trans (.advance _ i .transferBack (by rw [quiet.state_eq]; exact old) (by simp [StringState.served]))

theorem Moves.endJob (s : State) (b : BayNo) (e : EndRec) : Moves s (s.endJob b e) := by
  unfold State.endJob
  split
  · exact .refl s
  · rename_i i linked
    split
    · exact .endInBaseline s b i e _ linked
    all_goals try exact .refl s
    all_goals exact .endToTransferBack s b i e (by simp [StringState.served, *])

theorem Moves.endStringJob (s : State) (i : StringNo) (cause : Cause) : Moves s (s.endStringJob i cause) := by
  unfold State.endStringJob
  split
  · exact .refl s
  · exact .endJob s _ _

theorem Moves.sweepComplete (s : State) (i : StringNo) : Moves s (s.sweepComplete i) := by
  unfold State.sweepComplete State.startStep
  split
  · rename_i b hstate _
    refine .trans ?_ (Quiet.beginStep _ _ _ _).moves
    have quiet : Quiet s (((s.modBay b fun r => { r with startSpread := s.spreadOf i }).notePeak b i).newSetpoint b i) :=
      ((Quiet.modBay s b _ rfl).trans (.notePeak _ b i)).trans (.newSetpoint _ b i)
    refine quiet.moves.trans (.advance _ i .transferOut ?_ (by simp [StringState.served]))
    rw [quiet.state_eq, hstate]
    simp [StringState.served]
  · exact .refl s

theorem Quiet.clearOv (s : State) (i : StringNo) : Quiet s (s.modStr i StringRec.clearOv) :=
  .modStr s i _ rfl fun hb => hb.mapCells fun _ _ hc => ⟨Nat.zero_le 2, hc.ot, hc.level⟩

theorem Moves.confirmOut (s : State) (b : BayNo) (i : StringNo) (old : (s.str i).state = .transferOut) :
    Moves s (s.confirmOut b i) := by
  have hold : ∀ {t : State}, Quiet s t → (t.str i).state.served := fun h => by
    rw [h.state_eq, old]; simp [StringState.served]
  unfold State.confirmOut State.setpointStep
  dsimp only
  have quiet : Quiet s ((s.modStr i StringRec.clearOv).modBay b fun r =>
      { r with confirm := .stopped, sample := .running s.site.sampleTimeout, prevMean := none, plateau := 0, count := 0,
               sum := 0 }) := (Quiet.clearOv s i).trans (.modBay _ b _ rfl)
  split
  · have quiet' := quiet.trans (.modBay _ b (fun r =>
      { r with duration := .running ((s.profile i).maxDuration * 60), window := .running ((s.profile i).window * 60) }) rfl)
    exact quiet'.moves.trans (.advance _ i .equalising (hold quiet') (by simp [StringState.served]))
  · refine .trans ?_ (Quiet.beginStep _ _ _ _).moves
    refine .trans ?_ (.advance _ i .held (hold (quiet.trans (.modBay _ b _ rfl))) (by simp [StringState.served]))
    exact (quiet.trans (.modBay _ b _ rfl)).moves

theorem Moves.noteIsolated (s : State) : Moves s s.noteIsolated :=
  ⟨⟨fun h => ⟨h.fp, h.input, h.results, h.requests, h.holds, h.strings, ⟨h.gas.qualifier, h.gas.filter⟩⟩,
    .inr (Gas.statOk_driveStat _)⟩, .refl _⟩

theorem Moves.noteReleased (s : State) : Moves s s.noteReleased :=
  ⟨⟨fun h => ⟨h.fp, h.input, h.results, h.requests, h.holds, h.strings, ⟨h.gas.qualifier, h.gas.filter⟩⟩,
    .inr (Gas.statOk_driveStat _)⟩, .refl _⟩

theorem Moves.isolate (s : State) (b : BayNo) (i : StringNo) : Moves s (s.isolate b i) :=
  ((Quiet.postEqualise s b i true _).trans (.noteBayExit _)).moves.trans (.noteIsolated _)

/-- A string and its bay are isolated together, whatever of the bay's timers stops with it. -/
theorem Moves.block (s : State) (b : BayNo) (i : StringNo) (f : Bay → Bay)
    (hf : ∀ r, (f r).link = ⟨.blocked, r.string, r.limit⟩) (linked : (s.bay b).string = some i ∨ (s.str i).bay = some b) :
    Moves s ((s.modBay b f).modStr i fun r => { r with state := .isolated }) := by
  refine Calm.moves ?_ (.block _ b i linked) ?_
  · refine (Calm.modBay s b f).trans ?_
    exact .modRun _ i _ fun _ => rfl
  · rw [State.skeleton_modStr, State.skeleton_modBay, hf]
    rfl

theorem Moves.confirmBackExpired (s : State) (b : BayNo) (i : StringNo) (linked : (s.bay b).string = some i) :
    Moves s (s.confirmBackExpired b i) := by
  refine .trans ?_ (.isolate _ b i)
  refine .trans ?_ (Quiet.beginStep _ _ _ _).moves
  exact .block s b i (fun r => { r with state := .blocked, confirm := .stopped }) (fun _ => rfl) (.inl linked)

theorem Moves.switchFault (s : State) (b : BayNo) (i : StringNo) (linked : (s.str i).bay = some b) :
    Moves s (s.switchFault b i) := by
  refine .trans ?_ (.isolate _ b i)
  refine .trans ?_ (Quiet.beginStep _ _ _ _).moves
  have quiet : Quiet s (if (s.str i).state = .transferBack then s else s.recordEnd b i ⟨.abnormal, .switchFault⟩) := by
    split
    · exact .refl s
    · exact .recordEnd s b i _
  exact quiet.moves.trans (.block _ b i _ (fun _ => rfl) (.inr ((quiet.bay_eq i).trans linked)))

theorem Moves.releaseString (s : State) (i : StringNo) (isolated : (s.str i).state = .isolated) :
    Moves s (s.releaseString i) := by
  unfold State.releaseString
  split
  · rename_i bare
    refine .trans ?_ (.noteReleased _)
    exact (Calm.enterFloat s i).moves (.release _ i isolated bare) (s.skeleton_enterFloat i)
  · rename_i b linked
    refine .trans ?_ (.noteReleased _)
    exact (Quiet.withdraw s _).moves.trans (.freeBay_float _ b i (.inr linked))

end Sys2Proof.Machine
end

section
/-! PROOF. The gas state (R112 to R123), the rounds (R124 to R149), the grants and the evaluation (R62 to R81) move the
skeleton as the manual allows; an evaluation leaves none due. -/

namespace Sys2Proof.Machine

open Sys2Proof

/-! ## The course of a job under gas changes and windows -/

theorem Moves.gasHold (s : State) (b : BayNo) (i : StringNo) (old : (s.str i).state = .equalising) :
    Moves s (s.gasHold b i) := by
  unfold State.gasHold State.setpointStep
  refine .trans ?_ (Quiet.beginStep _ _ _ _).moves
  refine .trans ?_ (.advance _ i .held (by simpa [StringState.served] using .inr (.inr (.inl old))) (by simp [StringState.served]))
  exact (Quiet.modBay s b _ rfl).moves

theorem Moves.gasNormal (s : State) (b : BayNo) (i : StringNo) (old : (s.str i).state = .held) :
    Moves s (s.gasNormal b i) := by
  unfold State.gasNormal
  dsimp only
  have quiet : Quiet s ((((s.newSetpoint b i).notePeak b i).modBay b fun r =>
      { r with hold := .stopped, prevMean := none, plateau := 0, count := 0, sum := 0,
               window := .running ((s.profile i).window * 60), duration := r.duration.resume }).setpointStep b) :=
    (((Quiet.newSetpoint s b i).trans (.notePeak _ b i)).trans (.modBay _ b _ rfl)).trans (.beginStep _ _ _ _)
  exact quiet.moves.trans (.advance _ i .equalising (by rw [quiet.state_eq, old]; simp [StringState.served])
    (by simp [StringState.served]))

theorem Moves.gasChangeBay (old : GasState) (s : State) (b : BayNo) : Moves s (s.gasChangeBay old b) := by
  unfold State.gasChangeBay
  split
  · exact .refl s
  · split
    · split
      · exact .gasHold s b _ (by tauto)
      · exact .refl s
    · split
      · exact .gasNormal s b _ (by tauto)
      · exact .refl s
    · exact .endJob s b _

theorem Moves.gasChangeEq (s : State) (old : GasState) : Moves s (s.gasChangeEq old) :=
  .foldl _ (fun t b => .gasChangeBay old t b) _ s

theorem judgeWindow_link (p : Profile) (spread : Option Nat) (r : Bay) : (judgeWindow p spread r).link = r.link := by
  unfold judgeWindow
  split <;> rfl

theorem Quiet.recompute (s : State) (b : BayNo) (i : StringNo) : Quiet s (s.recompute b i) := by
  have quiet := (Quiet.noteMean s i).trans (.notePeak _ b i)
  unfold State.recompute State.setpointStep
  dsimp only
  split
  · exact quiet
  · refine (quiet.trans ?_).trans (.beginStep _ _ _ _)
    exact .modBay _ b _ rfl

theorem Moves.windowExpired (s : State) (b : BayNo) (i : StringNo) : Moves s (s.windowExpired b i) := by
  have quiet : Quiet s (s.modBay b (judgeWindow (s.profile i) (s.spreadOf i))) := .modBay s b _ (judgeWindow_link _ _ _)
  unfold State.windowExpired
  dsimp only
  split
  · exact quiet.moves.trans (.endJob _ b _)
  · refine .trans ?_ (Quiet.modBay _ b _ rfl).moves
    exact (quiet.trans (.recompute _ b i)).moves

theorem Quiet.sampleArrived (s : State) (i : StringNo) (current : Int) : Quiet s (s.sampleArrived i current) := by
  unfold State.sampleArrived
  split
  · exact .refl s
  · split
    · exact .modBay s _ _ (by dsimp only; split <;> rfl)
    · exact .modBay s _ _ rfl
    · exact .refl s

/-! ## The gas state -/

/-- A change of the gas state ends in a driven STAT. -/
theorem Moves.setGas (s : State) (st : GasState) (why : GasReason) : Moves s (s.setGas st why) := by
  unfold State.setGas
  dsimp only
  split
  · rename_i same
    exact (Quiet.modGas s _ ⟨same, rfl, rfl⟩ fun h => ⟨h.qualifier, h.filter⟩).moves
  · have after : Moves (s.modGas fun g => { g with state := st, reason := why })
        ((((s.modGas fun g => { g with state := st, reason := why }).gasChangeEq s.gas.state).trigger).fanFollow s.gas.need) :=
      ((Moves.gasChangeEq _ _).trans (.trigger _)).trans (Quiet.fanFollow _ _).moves
    refine ⟨⟨fun h => ?_, .inr (Gas.statOk_driveStat _)⟩, after.move⟩
    have h' := after.bounds
      ⟨h.fp, h.input, h.results, h.requests, h.holds, h.strings, ⟨h.gas.qualifier, h.gas.filter⟩⟩
    exact ⟨h'.fp, h'.input, h'.results, h'.requests, h'.holds, h'.strings, ⟨h'.gas.qualifier, h'.gas.filter⟩⟩

theorem Moves.holdGas (s : State) (why : GasReason) : Moves s (s.holdGas why) := by
  unfold State.holdGas
  split
  · exact .refl s
  · exact .setGas s _ _

theorem Moves.freeGas (s : State) : Moves s s.freeGas := by
  unfold State.freeGas
  split
  · exact .setGas s _ _
  · exact .refl s

theorem Moves.gasFlip (s : State) (high : Bool) : Moves s (s.gasFlip high) := by
  unfold State.gasFlip
  split
  · split
    · exact .setGas s _ _
    · exact .refl s
  · exact .freeGas s

theorem Qualifier.takeGas_agree (q : Qualifier) (hold release c : Nat) (h : q.agree ≤ 2) :
    (q.takeGas hold release c).agree ≤ 2 := by
  unfold Qualifier.takeGas
  split
  · exact q.advance_agree true h
  · split
    · exact q.advance_agree false h
    · exact Nat.zero_le 2

/-- An update of the sensor, its timer and its qualifier (R113, R114). -/
theorem Quiet.modSensor (s : State) (f : Gas → Gas) (stat : ∀ g : Gas, g.SameStat (f g)) (filter : ∀ g, (f g).filterAgree = g.filterAgree)
    (qualifier : s.gas.qualifier.agree ≤ 2 → (f s.gas).qualifier.agree ≤ 2) : Quiet s (s.modGas f) :=
  .modGas s f (stat _) fun h => ⟨qualifier h.qualifier, by rw [filter]; exact h.filter⟩

/-- A sensor that reports has its lost timer restarted; a LOST one is LIVE again, and HOLD takes the reason (R114). -/
def State.hearSensor (s : State) : State :=
  let s := s.modGas fun g => { g with lost := s.lostLength }
  if s.gas.sensor = .lost then
    let s := s.modGas fun g => { g with sensor := .live, qualifier := { state := true } }
    if s.gas.state = .hold then s.setGas .hold .concentration else s
  else s

/-- The qualifier takes a concentration (R114). -/
def State.qualifyGas (s : State) (c : Nat) : State :=
  s.modGas fun g => { g with qualifier := g.qualifier.takeGas s.site.holdThreshold s.site.releaseThreshold c }

/-- A report of the sensor is heard, and then judged. -/
theorem State.gasReported_eq (s : State) (src : Byte) (c : Nat) (fault : Bool) :
    s.gasReported src c fault =
      if src ≠ s.site.gasSensor ∨ s.site.gasSensor = 0 ∨ fault then s
      else if (s.hearSensor.qualifyGas c).gas.qualifier.state = s.hearSensor.gas.qualifier.state then
        s.hearSensor.qualifyGas c
      else (s.hearSensor.qualifyGas c).gasFlip (s.hearSensor.qualifyGas c).gas.qualifier.state := rfl

theorem Quiet.restartLost (s : State) : Quiet s (s.modGas fun g => { g with lost := s.lostLength }) :=
  .modSensor s _ (fun _ => ⟨rfl, rfl, rfl⟩) (fun _ => rfl) id

theorem Quiet.sensorLive (s : State) :
    Quiet s (s.modGas fun g => { g with sensor := .live, qualifier := { state := true } }) :=
  .modSensor s _ (fun _ => ⟨rfl, rfl, rfl⟩) (fun _ => rfl) fun _ => Nat.zero_le 2

theorem Quiet.qualifyGas (s : State) (c : Nat) : Quiet s (s.qualifyGas c) :=
  .modSensor s _ (fun _ => ⟨rfl, rfl, rfl⟩) (fun _ => rfl) (Qualifier.takeGas_agree _ _ _ _)

theorem Moves.hearSensor (s : State) : Moves s s.hearSensor := by
  unfold State.hearSensor
  dsimp only
  split
  · have live := (Quiet.restartLost s).trans (.sensorLive _)
    split
    · exact live.moves.trans (.setGas _ _ _)
    · exact live.moves
  · exact (Quiet.restartLost s).moves

theorem Moves.gasReported (s : State) (src : Byte) (c : Nat) (fault : Bool) : Moves s (s.gasReported src c fault) := by
  have heard : Moves s (s.hearSensor.qualifyGas c) := (Moves.hearSensor s).trans (Quiet.qualifyGas _ c).moves
  rw [State.gasReported_eq]
  split
  · exact .refl s
  · split
    · exact heard
    · exact heard.trans (.gasFlip _ _)

theorem Moves.sensorSilent (s : State) : Moves s s.sensorSilent :=
  .trans (Quiet.modSensor s (fun g => { g with sensor := .lost, lost := .stopped, qualifier := { state := true } })
    (fun _ => ⟨rfl, rfl, rfl⟩) (fun _ => rfl) (fun _ => Nat.zero_le 2)).moves (.holdGas _ _)

theorem Moves.sensorMoved (s : State) : Moves s s.sensorMoved := by
  unfold State.sensorMoved
  split
  · exact .trans (Quiet.modSensor s (fun g => { g with sensor := .none, lost := .stopped, qualifier := {} })
      (fun _ => ⟨rfl, rfl, rfl⟩) (fun _ => rfl) (fun _ => Nat.zero_le 2)).moves (.freeGas _)
  · exact .sensorSilent s

theorem Moves.tripSample (s : State) (level : PinLevel) : Moves s (s.tripSample level) := by
  have count : ∀ (f : PinLevel) (n : Nat), (s.gas.filterAgree ≤ 2 → n ≤ 2) →
      Quiet s (s.modGas fun g => { g with filter := f, filterAgree := n }) := fun f n hn =>
    .modGas s _ ⟨rfl, rfl, rfl⟩ fun h => ⟨h.qualifier, hn h.filter⟩
  unfold State.tripSample
  dsimp only
  split
  · exact (count s.gas.filter 0 fun _ => Nat.zero_le 2).moves
  · split
    · split
      · exact (count level 0 fun _ => Nat.zero_le 2).moves.trans (.setGas _ _ _)
      · exact (count level 0 fun _ => Nat.zero_le 2).moves
    · exact (count s.gas.filter (s.gas.filterAgree + 1) fun h => by omega).moves

theorem Quiet.restartGas (s : State) : Quiet s s.restartGas :=
  .modGas s _ ⟨rfl, rfl, rfl⟩ fun _ => ⟨Nat.zero_le 2, Nat.zero_le 2⟩

/-! ## Watering rounds -/

theorem Quiet.settleQ (s : State) (i : StringNo) (e : EndRec) : Quiet s (s.settleQ i e) :=
  .modRun s i _ fun _ => ⟨rfl, rfl⟩

theorem Moves.endRoundWith (s : State) (e : EndRec) (extra elapsed : Nat) : Moves s (s.endRoundWith e extra elapsed) := by
  have closed : Quiet s (s.modRound fun r => r.close e extra) := .modRound s _ ⟨rfl, rfl⟩
  unfold State.endRoundWith
  dsimp only
  split
  · rename_i bare
    refine closed.moves.trans (.trans ?_ (.trigger _))
    exact (Calm.modRound _ _).moves (.empty _ bare) rfl
  · rename_i i watered
    refine closed.moves.trans (.trans ?_ (Quiet.post _ _).moves)
    have quiet := (Quiet.settleQ (s.modRound fun r => r.close e extra) i e).trans (.releaseAll _ .manifold)
    refine quiet.moves.trans (((Calm.enterFloat _ i).trans (.modRound _ fun _ => {})).moves (.dry _ i ?_) ?_)
    · rw [quiet.skeleton]; exact watered
    · exact congrArg (Skeleton.setRound · .idle none)
        ((((s.modRound fun r => r.close e extra).settleQ i e).releaseAll .manifold).skeleton_enterFloat i)

theorem Moves.endRound (s : State) (e : EndRec) (extra : Nat) : Moves s (s.endRound e extra) := .endRoundWith s e extra _

theorem Moves.nextFill (s : State) : Moves s s.nextFill := by
  unfold State.nextFill
  split
  · split
    · split
      · exact .endRound s _ _
      · exact (Quiet.openFill s _ _ _).moves
    · exact .endRound s _ _
  · exact .refl s

theorem Moves.closeTaken (s : State) : Moves s s.closeTaken := by
  refine .trans ?_ (.nextFill _)
  exact (Quiet.modWater s _ ⟨rfl, rfl⟩).moves

theorem Moves.offerClose (s : State) (addr channel : Byte) : Moves s (s.offerClose addr channel) := by
  have pending : Quiet s (s.modWater fun w => { w with pendingClose := some ⟨addr, channel⟩ }) := .modWater s _ ⟨rfl, rfl⟩
  unfold State.offerClose
  dsimp only
  split
  · rename_i room
    exact (pending.trans (.takeCmd _ _ ((State.offerRoom_iff _).1 room).2)).moves.trans (.closeTaken _)
  · exact (pending.trans (.waitOffer _ _ _)).moves

theorem Moves.grantWatering (s : State) (i : StringNo) (src : SourceSet) (round : s.water.round.state = .idle)
    (string : (s.str i).state = .float) : Moves s (s.grantWatering i src) := by
  unfold State.grantWatering
  refine .trans ?_ (.nextFill _)
  refine .trans ?_ (Quiet.foldl (fun t a => t.takeHold a .manifold) (fun t a => .takeHold t a .manifold) _ _).moves
  refine Calm.moves ?_ (.water _ i round string) (State.skeleton_modStr _ i _)
  refine .trans ?_ (.modRun _ i _ ?_)
  · exact .modRound s _
  · exact fun _ => rfl

theorem Quiet.deduct (s : State) (addr channel : Byte) (volume : Nat) : Quiet s (s.deduct addr channel volume) := by
  refine (Quiet.modWater s (fun w => { w with tank := w.tank - volume }) ⟨rfl, rfl⟩).trans (.mapStrings _ _ (fun _ _ => rfl) ?_)
  intro i r hr
  refine hr.mapCells fun p c hc => ?_
  split
  · exact ⟨hc.ov, hc.ot, hc.level⟩
  · exact hc

theorem Quiet.dropFill (s : State) : Quiet s (s.modRound fun r => { r with fill := none }) := .modRound s _ ⟨rfl, rfl⟩

theorem Quiet.stopFill (s : State) : Quiet s (s.modRound fun r => { r with fill := none, fillTimer := .stopped }) :=
  .modRound s _ ⟨rfl, rfl⟩

theorem Moves.recheckOffer (s : State) : Moves s s.recheckOffer := by
  unfold State.recheckOffer
  split
  · exact .refl s
  · split
    · exact ((Quiet.withdrawOpen s).trans (.dropFill _)).moves.trans (.endRound _ _ _)
    · exact .refl s

theorem Moves.finishCancelled (s : State) : Moves s s.finishCancelled := (Quiet.stopFill s).moves.trans (.endRound _ _ _)

theorem Moves.fillExpired (s : State) (f : Fill) : Moves s (s.fillExpired f) := by
  refine .trans ?_ (.offerClose _ _ _)
  exact (Quiet.modRound s _ ⟨rfl, rfl⟩).moves

theorem Moves.cancelRound (s : State) (filling : s.water.round.state = .filling) : Moves s s.cancelRound := by
  unfold State.cancelRound
  split
  · exact .endRound s _ _
  · split
    · exact ((Quiet.withdrawOpen s).trans (.dropFill _)).moves.trans (.endRound _ _ _)
    · refine .trans ?_ (.offerClose _ _ _)
      exact (Calm.modRound s _).moves (.ending _ filling) rfl

theorem Moves.restartWater (s : State) : Moves s s.restartWater := by
  unfold State.restartWater
  dsimp only
  split
  · exact .refl s
  · exact (Quiet.stopFill s).moves.trans (.endRoundWith _ _ _ _)
  · split
    · exact .endRoundWith s _ _ _
    · split
      · exact ((Quiet.withdrawOpen s).trans (.dropFill _)).moves.trans (.endRoundWith _ _ _ _)
      · exact ((Moves.offerClose s _ _).trans (Quiet.stopFill _).moves).trans (.endRoundWith _ _ _ _)

/-! ## Requests and grants -/

theorem raiseInto_pairwise {l : List Entry} (h : l.Pairwise fun a b => ¬(a.string = b.string ∧ a.kind = b.kind)) (i : StringNo)
    (k : JobKind) (src : Source) (level now : Nat) :
    (raiseInto l i k src level now).Pairwise fun a b => ¬(a.string = b.string ∧ a.kind = b.kind) := by
  unfold raiseInto
  split
  · refine List.pairwise_map.2 (h.imp fun {a b} hab => ?_)
    split <;> split <;> exact hab
  · rename_i none
    refine List.pairwise_append.2 ⟨h, List.pairwise_singleton _ _, fun a ha b hb => ?_⟩
    obtain rfl := List.mem_singleton.1 hb
    simp only [List.any_eq_true, not_exists, not_and, Entry.isFor, Bool.and_eq_true, decide_eq_true_eq] at none
    exact fun e => none a ha e.1 e.2

theorem Moves.raise (s : State) (i : StringNo) (k : JobKind) (src : Source) (level : Nat) : Moves s (s.raise i k src level) :=
  (Quiet.setRequests s _ fun h => raiseInto_pairwise h i k src level s.second).moves.trans (.trigger _)

theorem Moves.autoRaise (s : State) (i : StringNo) (k : JobKind) (src : Source) : Moves s (s.autoRaise i k src) := by
  unfold State.autoRaise
  split
  · exact .refl s
  · exact .raise s _ _ _ _

theorem State.skeleton_autoRaise (s : State) (i : StringNo) (k : JobKind) (src : Source) :
    (s.autoRaise i k src).skeleton = s.skeleton := by
  unfold State.autoRaise
  split <;> rfl

theorem Quiet.dropEntry (s : State) (i : StringNo) (k : JobKind) : Quiet s (s.dropEntry i k) := .dropRequests s _
theorem Quiet.dropString (s : State) (i : StringNo) : Quiet s (s.dropString i) := .dropRequests s _

theorem Moves.tickString (s : State) (i : StringNo) : Moves s (s.tickString i) := by
  have perhaps : ∀ (t : State) (c : Prop) [Decidable c] (k : JobKind) (src : Source),
      Moves t (if c then t.autoRaise i k src else t) := fun t c _ k src => .ite t _ c fun _ => .autoRaise t i k src
  unfold State.tickString
  split
  · exact ((perhaps s _ _ _).trans (perhaps _ _ _ _)).trans (perhaps _ _ _ _)
  · exact .refl s

theorem Quiet.advanceAges (s : State) : Quiet s s.advanceAges :=
  .mapStrings s _ (fun _ _ => by split <;> rfl) (fun _ _ h => by split <;> exact h)

theorem Moves.hourTicked (s : State) : Moves s s.hourTicked :=
  ((Quiet.advanceAges s).moves.trans (.foldl _ (fun t i => .tickString t i) _ _)).trans (.trigger _)

theorem Moves.settlingCheck (s : State) (i : StringNo) : Moves s (s.settlingCheck i) := by
  unfold State.settlingCheck
  split
  · exact .autoRaise s _ _ _
  · exact .refl s

theorem State.skeleton_settlingCheck (s : State) (i : StringNo) : (s.settlingCheck i).skeleton = s.skeleton := by
  unfold State.settlingCheck
  split
  · exact s.skeleton_autoRaise _ _ _
  · rfl

theorem Moves.startSweep (s : State) (i : StringNo) : Moves s (s.startSweep i) := by
  unfold State.startSweep
  split
  · exact .sweepComplete s i
  · refine Quiet.moves (.trans ?_ (.sweepNext _ i))
    exact .modRun s i _ fun _ => ⟨rfl, rfl⟩

theorem Moves.baselineSweep (s : State) (i : StringNo) : Moves s (s.baselineSweep i) := by
  unfold State.baselineSweep
  split
  · exact .refl s
  · exact .startSweep s i

theorem Moves.grantEqualise (s : State) (i : StringNo) (b : BayNo) (limit : Nat) (reduced : Bool)
    (bay : (s.bay b).state = .free) (string : (s.str i).state = .float) (inUse : b = 0 ∨ s.site.bays = 2)
    (covered : limit ≤ s.site.budget * 100 - s.busySum) : Moves s (s.grantEqualise i b limit reduced) := by
  unfold State.grantEqualise
  refine .trans ?_ (Quiet.noteBayEntry _).moves
  refine .trans ?_ (.baselineSweep _ i)
  refine .trans ?_ (Quiet.takeTwo _ _ _).moves
  refine Calm.moves ?_ (.grant _ b i limit bay string inUse covered) ?_
  · refine .trans ?_ (.modRun _ i _ ?_)
    · exact .setBay s b _
    · exact fun _ => rfl
  · rw [State.skeleton_modStr, State.skeleton_setBay]; rfl

theorem grantLimit_le {a r limit : Nat} {reduced : Bool} (h : grantLimit a r = some (limit, reduced)) : limit ≤ r := by
  unfold grantLimit at h
  split at h
  · obtain ⟨rfl, -⟩ := Prod.mk.inj (Option.some.inj h); assumption
  · split at h
    · obtain ⟨rfl, -⟩ := Prod.mk.inj (Option.some.inj h); exact Nat.div_mul_le_self _ _
    · cases h

theorem State.freeBayInUse_spec {s : State} {b : BayNo} (h : s.freeBayInUse = some b) :
    (s.bay b).state = .free ∧ (b = 0 ∨ (s.site.bays = 2 ∧ (s.bay 0).state ≠ .free)) := by
  unfold State.freeBayInUse at h
  split at h
  · obtain rfl := Option.some.inj h
    exact ⟨‹_›, .inl rfl⟩
  · split at h
    · obtain rfl := Option.some.inj h
      exact ⟨‹_ ∧ _›.2, .inr ⟨‹_ ∧ _›.1, ‹_›⟩⟩
    · cases h

/-- What an entry that can be granted a bay is known by (R73). -/
theorem State.equaliseGrant_eq_some {s : State} {e : Entry} {b : BayNo} {limit : Nat} {reduced : Bool} :
    s.equaliseGrant e = some (b, limit, reduced) ↔ e.kind = .equalise ∧ s.equaliseReady e = true ∧
      s.freeBayInUse = some b ∧ s.currentFor e.string = some (limit, reduced) := by
  unfold State.equaliseGrant
  constructor
  · intro h
    split at h
    · rename_i ready
      split at h
      · rename_i hb hc
        obtain ⟨rfl, hrest⟩ := Prod.mk.inj (Option.some.inj h)
        obtain ⟨rfl, rfl⟩ := Prod.mk.inj hrest
        exact ⟨ready.1, ready.2, hb, hc⟩
      · cases h
    · cases h
  · rintro ⟨hkind, hready, hb, hc⟩
    simp [hkind, hready, hb, hc]

theorem Moves.bayPick (s : State) : Moves s s.bayPick := by
  unfold State.bayPick
  split
  · exact .refl s
  · rename_i e _
    split
    · exact .refl s
    · rename_i b limit reduced hgrant
      obtain ⟨-, hready, hb, hc⟩ := State.equaliseGrant_eq_some.1 hgrant
      obtain ⟨hfree, huse⟩ := State.freeBayInUse_spec hb
      have hfloat : (s.str e.string).state = .float := by
        simp only [State.equaliseReady, Bool.and_eq_true, decide_eq_true_eq] at hready
        tauto
      exact (Quiet.dropEntry s e.string .equalise).moves.trans
        (.grantEqualise _ _ b limit reduced hfree hfloat (huse.imp id And.left) (grantLimit_le hc))

/-- What an entry that can be granted the manifold is known by (R74). -/
theorem State.wateringEligible_iff (s : State) (e : Entry) :
    s.wateringEligible e = true ↔ e.kind = .watering ∧ s.ceiling < e.level ∧ (s.str e.string).state = .float ∧
      s.water.round.state = .idle ∧ ∃ p rest, s.fillListFor e.string (buildOf e.sources) = p :: rest ∧
        (s.volumeOf e.string p : Int) ≤ s.water.available := by
  unfold State.wateringEligible
  cases h : s.fillListFor e.string (buildOf e.sources) with
  | nil => simp
  | cons p rest => simp [and_assoc]

/-- A choice between pairs, made along a list, chooses from the list. -/
theorem foldl_choice_mem {α : Type} (better : α → α → Bool) :
    ∀ (l : List α) (x : α), l.foldl (fun best y => if better y best then y else best) x ∈ x :: l
  | [], x => .head _
  | y :: l, x => by
    rw [List.foldl_cons]
    split
    · exact .tail _ (foldl_choice_mem better l y)
    · obtain h | h := List.mem_cons.1 (foldl_choice_mem better l x)
      · rw [h]; exact .head _
      · exact .tail _ (.tail _ h)

theorem pick_mem {l : List Entry} {e : Entry} (h : pick l = some e) : e ∈ l := by
  cases l with
  | nil => cases h
  | cons x l =>
    obtain rfl := Option.some.inj h
    exact foldl_choice_mem Entry.before l x

theorem Moves.manifoldPick (s : State) : Moves s s.manifoldPick := by
  unfold State.manifoldPick
  split
  · exact .refl s
  · rename_i e hpick
    obtain ⟨-, heligible⟩ := List.mem_filter.1 (pick_mem hpick)
    obtain ⟨-, -, hfloat, hidle, -⟩ := (s.wateringEligible_iff e).1 heligible
    exact (Quiet.dropEntry s e.string .watering).moves.trans (.grantWatering _ _ _ hidle hfloat)

theorem Moves.evaluate (s : State) : Moves s s.evaluate := ((Moves.bayPick s).trans (.bayPick _)).trans (.manifoldPick _)

end Sys2Proof.Machine
end

section
/-! PROOF. The reports (R21 to R45), the table writes, the requests (R175 to R183) and the warm restart (R184) move the
skeleton as the manual allows. -/

namespace Sys2Proof.Machine

open Sys2Proof

/-! ## Cell and level reports -/

theorem Cell.Bounded.takeSample {c : Cell} (h : c.Bounded) (x : CellSample) (now : Nat) (fitted charging : Bool) (p : Profile) :
    (c.takeSample x now fitted charging p).Bounded := by
  unfold Cell.takeSample
  dsimp only
  split
  · exact ⟨h.ov, h.ot, h.level⟩
  · refine ⟨?_, Qualifier.advance_agree _ _ h.ot, h.level⟩
    dsimp only
    split
    · exact Qualifier.advance_agree _ _ h.ov
    · exact h.ov

theorem Quiet.applySample (s : State) (i : StringNo) (pos : Nat) (x : CellSample) : Quiet s (s.applySample i pos x) := by
  unfold State.applySample
  split
  · exact .refl s
  · exact .modCell s i _ _ fun h => h.takeSample x _ _ _ _

theorem Quiet.applySamples (i : StringNo) : ∀ (l : List CellSample) (pos : Nat) (s : State), Quiet s (s.applySamples i pos l)
  | [], _, s => .refl s
  | x :: l, pos, s => (Quiet.applySample s i pos x).trans (.applySamples i l (pos + 1) _)

theorem Moves.cellEvents (i : StringNo) (p : Position) (old s : State) : Moves s (old.cellEvents i p s) := by
  unfold State.cellEvents
  dsimp only
  refine .trans ?_ (.ite _ _ _ fun _ => .trigger _)
  refine .trans ?_ (.ite _ _ _ fun _ => .endStringJob _ i _)
  exact .ite s _ _ fun _ => .endStringJob s i _

theorem Moves.completeSweep (s : State) (i : StringNo) : Moves s (s.completeSweep i) := by
  refine .trans (Quiet.modRun s i _ ?_).moves (.sweepComplete _ i)
  exact fun _ => ⟨rfl, rfl⟩

theorem Moves.answerSweep (s : State) (i : StringNo) (src : Byte) : Moves s (s.answerSweep i src) := by
  unfold State.answerSweep
  split
  · exact .refl s
  · split
    · split
      · exact .completeSweep s i
      · exact Quiet.moves (.modRun s i _ fun _ => ⟨rfl, rfl⟩)
    · exact .refl s

theorem Moves.cellReported (s : State) (e : MapEntry) (samples : List CellSample) : Moves s (s.cellReported e samples) := by
  unfold State.cellReported
  split
  · rename_i i first count _ _
    refine .trans ?_ (.answerSweep _ i e.addr)
    exact (Quiet.applySamples i (samples.take count) first s).moves.trans
      (.foldl (fun t p => s.cellEvents i p t) (fun t p => .cellEvents i p s t) allPositions _)
  · exact .refl s

theorem Cell.Bounded.flag {c : Cell} (h : c.Bounded) (flagged : Bool) :
    (if flagged then { c with sampleFault := true } else c).Bounded := by
  split
  · exact ⟨h.ov, h.ot, h.level⟩
  · exact h

theorem Moves.sweepExpired (s : State) (i : StringNo) : Moves s (s.sweepExpired i) := by
  unfold State.sweepExpired
  dsimp only
  refine .trans ?_ (.completeSweep _ i)
  refine ((Quiet.withdraw s _).trans (.modStr _ i _ ?_ ?_)).moves
  · rfl
  · exact fun h => h.mapCells fun p c hc => hc.flag _

theorem Cell.Bounded.takeLevel {c : Cell} (h : c.Bounded) (low : Bool) : (c.takeLevel low).Bounded := by
  have h' : ({ c with levelQ := c.levelQ.advance low } : Cell).Bounded := ⟨h.ov, h.ot, Qualifier.advance_agree _ _ h.level⟩
  unfold Cell.takeLevel
  dsimp only
  split
  · exact ⟨h'.ov, h'.ot, h'.level⟩
  · split
    · exact ⟨h'.ov, h'.ot, h'.level⟩
    · exact h'

theorem Moves.levelFlip (s : State) (i : StringNo) (low : Bool) : Moves s (s.levelFlip i low) := by
  unfold State.levelFlip
  split
  · exact .autoRaise s _ _ _
  · exact (Quiet.withdrawalCheck s i).moves

theorem Moves.levelReading (s : State) (i : StringNo) (p : Position) (low : Bool) : Moves s (s.levelReading i p low) := by
  have taken : Moves s (s.modCell i p (·.takeLevel low)) := (Quiet.modCell s i p _ fun h => h.takeLevel low).moves
  have flipped : Moves s (if (s.cell i p).levelQ.flips low then (s.modCell i p (·.takeLevel low)).levelFlip i low
      else s.modCell i p (·.takeLevel low)) := by
    split
    · exact taken.trans (.levelFlip _ i low)
    · exact taken
  exact flipped.trans (.ite _ _ _ fun _ => .trigger _)

theorem Moves.levelReported (s : State) (e : MapEntry) (position : Nat) (code : LevelCode) :
    Moves s (s.levelReported e position code) := by
  unfold State.levelReported
  split
  · split
    · split
      · exact (Quiet.modCell s _ _ _ fun h => ⟨h.ov, h.ot, Nat.zero_le 2⟩).moves
      · exact .levelReading s _ _ _
      · exact .levelReading s _ _ _
    · exact .refl s
  · exact .refl s

theorem Quiet.fullAction (s : State) (i : StringNo) (p : Position) : Quiet s (s.fullAction i p) := by
  have full : Quiet s (s.modCell i p fun c => { c with level := .ok, levelQ := {} }) :=
    .modCell s i p _ fun h => ⟨h.ov, h.ot, Nat.zero_le 2⟩
  unfold State.fullAction
  dsimp only
  split
  · split
    · exact full.trans (.withdrawalCheck _ i)
    · exact full
  · exact .refl s

/-! ## String reports and presence -/

theorem Moves.setPresence (s : State) (i : StringNo) (p : Presence) : Moves s (s.setPresence i p) := by
  unfold State.setPresence
  dsimp only
  refine .trans ?_ (.trigger _)
  refine ((Quiet.modRun s i _ ?_).trans (.post _ _)).moves
  exact fun _ => ⟨rfl, rfl⟩

theorem Moves.heard (s : State) (i : StringNo) : Moves s (s.heard i) := by
  unfold State.heard
  split
  · exact .refl s
  · exact .setPresence s i _

theorem StringRec.integrate_link (r : StringRec) (current : Int) (dt : Nat) :
    (r.integrate current dt).link = r.link ∧ (r.integrate current dt).cells = r.cells := by
  unfold StringRec.integrate
  split <;> exact ⟨rfl, rfl⟩

theorem Moves.stringReported (s : State) (e : MapEntry) (received : Int) (voltage : Nat) :
    Moves s (s.stringReported e received voltage) := by
  unfold State.stringReported
  split
  · exact .refl s
  · split
    · refine .trans (.trans ?_ (.heard _ _)) (Quiet.sampleArrived _ _ _).moves
      refine ((Quiet.modRun s _ _ ?_).trans (.modRun _ _ _ ?_)).moves
      · exact fun r => r.integrate_link _ _
      · exact fun _ => ⟨rfl, rfl⟩
    · exact .refl s

/-! ## Reports handed to EQ and WT -/

/-- A freed bay, its string settling (R103, R106). -/
theorem Moves.confirmBack (s : State) (b : BayNo) (i : StringNo) (linked : (s.str i).bay = some b) :
    Moves s (s.confirmBack b i) := by
  unfold State.confirmBack State.startSettle
  dsimp only
  have posted : Quiet s ((s.modBay b fun r => { r with confirm := .stopped }).postEqualise b i false
      ((s.modBay b fun r => { r with confirm := .stopped }).elapsed
        (((s.modBay b fun r => { r with confirm := .stopped }).str i).startMinute))) :=
    (Quiet.modBay s b _ rfl).trans (.postEqualise _ b i false _)
  generalize (s.modBay b fun r => { r with confirm := .stopped }).postEqualise b i false _ = u at posted ⊢
  have link : (u.bay b).string = some i ∨ (u.str i).bay = some b := .inr ((posted.bay_eq i).trans linked)
  have skeleton : ((u.freeBay b i).settlingCheck i).skeleton =
      (u.skeleton.setBay b ⟨.free, none, 0⟩).setStr i ⟨(u.str i).state, none⟩ :=
    (State.skeleton_settlingCheck _ i).trans (u.skeleton_freeBay b i)
  have bare : (((u.freeBay b i).settlingCheck i).str i).bay = none := by
    have h := congrArg (fun k => (k.str i).bay) skeleton
    rwa [Skeleton.str_setStr] at h
  have calm := (Calm.freeBay u b i).trans (Moves.settlingCheck _ i).toCalm
  refine (posted.moves.trans ?_).trans (Quiet.noteBayExit _).moves
  split
  · refine (calm.trans (.enterFloat _ i)).moves (.free _ b i .float link (.inr (.inl rfl))) ?_
    rw [State.skeleton_enterFloat, bare, skeleton, Skeleton.setStr_setStr]
  · refine Calm.moves (calm.trans (.modRun _ i _ ?_)) (.free _ b i .settling link (.inr (.inr rfl))) ?_
    · exact fun _ => rfl
    · rw [State.skeleton_modStr, skeleton]
      unfold StringRec.link
      rw [bare, Skeleton.setStr_setStr]

theorem Moves.switchReported (s : State) (e : MapEntry) (position : SwitchCode) : Moves s (s.switchReported e position) := by
  unfold State.switchReported
  split
  · exact .refl s
  · split
    · split
      · exact .refl s
      · rename_i linked
        split
        all_goals try exact .switchFault s _ _ linked
        all_goals try exact .refl s
        · split
          · exact .confirmOut s _ _ ‹_›
          · exact .refl s
        · split
          · exact .confirmBack s _ _ linked
          · exact .refl s
    · exact .refl s

theorem Moves.chargerReported (s : State) (src : Byte) (output : Nat) (state : ChargerCode) :
    Moves s (s.chargerReported src output state) := by
  unfold State.chargerReported
  split
  · exact .refl s
  · split
    · exact .endJob s _ _
    · exact .refl s

theorem Quiet.modCellPlain (s : State) (i : StringNo) (p : Position) (f : Cell → Cell)
    (h : ∀ c, (f c).ov = c.ov ∧ (f c).ot = c.ot ∧ (f c).levelQ = c.levelQ) : Quiet s (s.modCell i p f) :=
  .modCell s i p f fun hc => by
    obtain ⟨hov, hot, hlevel⟩ := h ((s.str i).cell p)
    exact ⟨hov ▸ hc.ov, hot ▸ hc.ot, hlevel ▸ hc.level⟩

theorem Round.fault_link (r : Round) (p : Position) (why : FaultReason) :
    (r.fault p why).state = r.state ∧ (r.fault p why).string = r.string := ⟨rfl, rfl⟩

theorem Round.more_link (r : Round) (p : Position) : (r.more p).state = r.state ∧ (r.more p).string = r.string := by
  unfold Round.more
  split <;> exact ⟨rfl, rfl⟩

theorem Moves.fillReported (s : State) (f : Fill) (code : ValveCode) (volume : Nat) : Moves s (s.fillReported f code volume) := by
  have counted : Quiet s (s.modRound fun r =>
      { r with fillTimer := .stopped, total := satAdd Config.max16 r.total volume, fill := none }) :=
    .modRound s _ ⟨rfl, rfl⟩
  unfold State.fillReported
  dsimp only
  split
  · exact counted.moves.trans (.nextFill _)
  · rename_i i _
    have noted := counted.trans (.modCellPlain _ i f.pos (fun c => { c with lastFill := some code }) fun _ => ⟨rfl, rfl, rfl⟩)
    refine .trans (noted.trans ?_).moves (.nextFill _)
    split
    · exact (Quiet.modRound _ _ ⟨rfl, rfl⟩).trans (.fullAction _ i f.pos)
    · exact .modRound _ _ (Round.more_link _ _)
    · exact (Quiet.modCellPlain _ i f.pos (fun c => { c with valveFault := true }) fun _ => ⟨rfl, rfl, rfl⟩).trans
        (.modRound _ _ (Round.fault_link _ _ _))

theorem Moves.valveReported (s : State) (src channel : Byte) (code : ValveCode) (volume : Nat) :
    Moves s (s.valveReported src channel code volume) := by
  unfold State.valveReported
  dsimp only
  split
  · exact .refl s
  · refine (Quiet.deduct s src channel volume).moves.trans ?_
    split
    · exact .fillReported _ _ _ _
    · exact .finishCancelled _
    · split
      · exact .refl _
      · exact .recheckOffer _

theorem Moves.handleReport (s : State) (e : MapEntry) (r : Report) : Moves s (s.handleReport e r) := by
  cases r with
  | cell l => exact .cellReported s e l
  | string c v => exact .stringReported s e c v
  | level p c => exact .levelReported s e p c
  | valve ch c v => exact .valveReported s e.addr ch c v
  | switch p => exact .switchReported s e p
  | charger o st _ _ => exact .chargerReported s e.addr o st
  | gas c f => exact .gasReported s e.addr c f

/-! ## The table writes -/

theorem Moves.applySite (s : State) (x : Site) (bays : x.bays = s.site.bays ∨ ∀ b, (s.bay b).state = .free)
    (covered : s.busySum ≤ x.budget * 100) : Moves s (s.applySite x) := by
  have written : Moves s { s with site := x } :=
    Calm.moves ⟨fun h => ⟨h.fp, h.input, h.results, h.requests, h.holds, h.strings, h.gas⟩, .inl (.refl _)⟩
      (.site s.skeleton x.bays x.budget bays covered) rfl
  unfold State.applySite
  dsimp only
  refine (written.trans ?_).trans (.trigger _)
  have moved : Moves { s with site := x }
      (if x.fan = s.site.fan then { s with site := x } else { s with site := x }.fanMoved s.site.fan) := by
    split
    · exact .refl _
    · exact (Quiet.fanMoved _ _).moves
  split
  · exact moved
  · exact moved.trans (.sensorMoved _)

theorem State.baysFree_iff (s : State) : s.baysFree = true ↔ ∀ b, (s.bay b).state = .free := by
  simp [State.baysFree, allBays]

theorem Moves.writeSite (s : State) (body : List Byte) : Moves s (s.writeSite body).2 := by
  unfold State.writeSite
  split
  · exact .refl s
  · split
    · exact .refl s
    · rename_i conflict
      simp only [State.siteConflict, Bool.or_eq_true, Bool.and_eq_true, decide_eq_true_eq, Bool.not_eq_true', not_or, not_and,
        Bool.not_eq_false, not_lt] at conflict
      obtain ⟨⟨⟨⟨⟨hbays, -⟩, hbudget⟩, -⟩, -⟩, -⟩ := conflict
      exact .applySite s _ (or_iff_not_imp_left.2 fun h => (s.baysFree_iff).1 (hbays h)) hbudget

theorem Quiet.setMap (s : State) (l : List MapEntry) : Quiet s (s.setMap l) :=
  .setTables s s.clock s.silenceTimeout s.ceiling l s.profiles s.pending

theorem Quiet.holdNewValve (s : State) (e : MapEntry) : Quiet s (s.holdNewValve e) := by
  unfold State.holdNewValve
  split
  · exact .takeHold s _ _
  · exact .refl s

theorem Quiet.writeEntry (s : State) (e : MapEntry) : Quiet s (s.writeEntry e).2 := by
  unfold State.writeEntry
  split
  · split
    · exact .refl s
    · split
      · exact .refl s
      · exact .setMap s _
  · split
    · exact .refl s
    · exact (Quiet.setMap s _).trans (.holdNewValve _ e)

theorem Quiet.deleteEntry (s : State) (a : Byte) : Quiet s (s.deleteEntry a).2 := by
  unfold State.deleteEntry
  split
  · exact .refl s
  · split
    · exact .refl s
    · exact .setMap s _

theorem Quiet.writeSourceMap (s : State) (args : List Byte) : Quiet s (s.writeSourceMap args).2 := by
  unfold State.writeSourceMap
  dsimp only
  split
  · exact .refl s
  · split
    · split
      · exact .deleteEntry s _
      · exact .refl s
    · split
      · exact .refl s
      · exact .writeEntry s _

theorem Cell.Bounded.unfit (c : Cell) : c.unfit.Bounded := ⟨Nat.zero_le 2, Nat.zero_le 2, Nat.zero_le 2⟩

theorem Moves.unfitCells (s : State) (i : StringNo) (old new : Nat) : Moves s (s.unfitCells i old new) := by
  have unfitted : ∀ leaves : Position → Bool,
      Moves s (s.modStr i fun r => r.mapCells fun p c => if leaves p then c.unfit else c) := fun leaves => by
    refine (Quiet.modStr s i _ ?_ fun h => h.mapCells fun p c hc => ?_).moves
    · rfl
    · split
      · exact .unfit c
      · exact hc
  unfold State.unfitCells
  dsimp only
  refine .trans ?_ (.ite _ _ _ fun _ => (Quiet.withdrawalCheck _ i).moves)
  exact (unfitted _).trans (.ite _ _ _ fun _ => .trigger _)

theorem Moves.refitString (s : State) (i : StringNo) (old : StringConfig)
    (loose : (s.str i).state = .absent ∨ (s.str i).state = .float) : Moves s (s.refitString i old) := by
  have hloose : (s.str i).state.loose := loose.imp id .inl
  unfold State.refitString
  dsimp only
  split
  · split
    · exact .refl s
    · refine .trans (.loosen s i _ hloose ?_ ?_ ?_) (Quiet.dropString _ i).moves
      · exact .inl rfl
      · rfl
      · exact fun _ => rfl
  · split
    · refine .trans ?_ (.trigger _)
      refine .trans (Quiet.modRun s i _ ?_).moves (.loosen _ i _ ?_ ?_ ?_ ?_)
      · exact fun _ => ⟨rfl, rfl⟩
      · rw [s.str_modStr]; exact hloose
      · exact .inr (.inl rfl)
      · rfl
      · exact fun _ => rfl
    · split
      · exact .refl s
      · exact Quiet.moves (.modRun s i _ fun _ => ⟨rfl, rfl⟩)

theorem Quiet.emptyLatch (s : State) (i : StringNo) : Quiet s (s.emptyLatch i) := .setMgmt s _ id id

theorem Moves.applyString (s : State) (i : StringNo) (c : StringConfig)
    (loose : (s.str i).state = .absent ∨ (s.str i).state = .float) : Moves s (s.applyString i c) := by
  unfold State.applyString
  dsimp only
  refine .trans ?_ (.trigger _)
  refine .trans ?_ (Quiet.emptyLatch _ i).moves
  refine .trans ?_ (.unfitCells _ i _ _)
  refine .trans (Quiet.modRun s i _ ?_).moves (.refitString _ i _ ?_)
  · exact fun _ => ⟨rfl, rfl⟩
  · rw [s.str_modStr]; exact loose

theorem State.loose_of_no_stringConflict {s : State} {i : StringNo} {c : StringConfig} (h : ¬s.stringConflict i c = true) :
    (s.str i).state = .absent ∨ (s.str i).state = .float := by
  unfold State.stringConflict at h
  simp only [Bool.or_eq_true, Bool.and_eq_true, decide_eq_true_eq, not_or] at h
  tauto

theorem Moves.writeString (s : State) (args : List Byte) : Moves s (s.writeString args).2 := by
  unfold State.writeString
  split
  · exact .refl s
  · dsimp only
    split
    · exact .refl s
    · split
      · exact .refl s
      · exact .applyString s _ _ (State.loose_of_no_stringConflict ‹_›)

theorem Moves.writeCell (s : State) (args : List Byte) : Moves s (s.writeCell args).2 := by
  unfold State.writeCell
  split
  · dsimp only
    split
    · exact .refl s
    · split
      · exact .refl s
      · refine .trans ?_ (.trigger _)
        refine (Quiet.modCellPlain s _ _ _ ?_).moves
        exact fun _ => ⟨rfl, rfl, rfl⟩
  · exact .refl s

theorem Quiet.emptyProfileLatches (s : State) (k : ProfileNo) : Quiet s (s.emptyProfileLatches k) := .setMgmt s _ id id

theorem Moves.writeProfile (s : State) (args : List Byte) : Moves s (s.writeProfile args).2 := by
  unfold State.writeProfile
  split
  · exact .refl s
  · rename_i k _
    dsimp only
    split
    · exact .refl s
    · split
      · exact .refl s
      · refine .trans ?_ (.trigger _)
        exact ((Quiet.setTables s s.clock s.silenceTimeout s.ceiling s.sourceMap (tset s.profiles k (readProfile (args.drop 1)))
          s.pending).trans (.emptyProfileLatches _ k)).moves

/-! ## The other requests -/

theorem Moves.answerRestore (s : State) (args : List Byte) : Moves s (s.answerRestore args).2 := by
  unfold State.answerRestore
  split
  · exact .refl s
  · split
    · exact .refl s
    · dsimp only
      exact Quiet.moves (.modRun s _ _ fun _ => ⟨rfl, rfl⟩)

theorem Moves.answerJobStart (s : State) (args : List Byte) : Moves s (s.answerJobStart args).2 := by
  unfold State.answerJobStart
  dsimp only
  split
  · split
    · exact .refl s
    · split
      · exact .refl s
      · split
        · exact .refl s
        · split
          · exact .refl s
          · exact .raise s _ _ _ _
  · exact .refl s

theorem Moves.cancelWork (s : State) (i : StringNo) (k : JobKind) (h : s.cancellable i k = true) :
    Moves s (s.cancelWork i k) := by
  cases k with
  | equalise => exact .endStringJob s i _
  | watering =>
    simp only [State.cancellable, Bool.and_eq_true, decide_eq_true_eq] at h
    exact .cancelRound s h.2

theorem Moves.answerJobCancel (s : State) (args : List Byte) : Moves s (s.answerJobCancel args).2 := by
  unfold State.answerJobCancel
  split
  · split
    · dsimp only
      split
      · exact (Quiet.dropEntry s _ _).moves.trans (.cancelWork _ _ _ ‹_›)
      · exact (Quiet.dropEntry s _ _).moves
    · exact .refl s
  · exact .refl s

theorem Moves.answerSetCeiling (s : State) (args : List Byte) : Moves s (s.answerSetCeiling args).2 := by
  unfold State.answerSetCeiling
  dsimp only
  split
  · exact .refl s
  · exact (Quiet.setTables s s.clock s.silenceTimeout _ s.sourceMap s.profiles s.pending).moves.trans (.trigger _)

theorem Moves.answerSetTank (s : State) (args : List Byte) : Moves s (s.answerSetTank args).2 := by
  refine .trans (.trans ?_ (.recheckOffer _)) (.trigger _)
  exact (Quiet.modWater s _ ⟨rfl, rfl⟩).moves

theorem Quiet.answerFetch (s : State) (args : List Byte) : Quiet s (s.answerFetch args).2 := by
  unfold State.answerFetch
  split
  · exact .refl s
  · rename_i r rest h
    refine .setMgmt s _ id fun hr => ?_
    rw [h, List.length_cons] at hr
    exact Nat.le_of_succ_le hr

theorem Quiet.answerSnapshot (s : State) (args : List Byte) : Quiet s (s.answerSnapshot args).2 := by
  unfold State.answerSnapshot
  split
  · exact .refl s
  · split
    · exact .refl s
    · split
      · exact .refl s
      · refine .trans ?_ (.noteMean _ _)
        exact .setMgmt s _ id id

theorem Quiet.answerReadSnapshot (s : State) (args : List Byte) : Quiet s (s.answerReadSnapshot args).2 := by
  unfold State.answerReadSnapshot
  split
  · exact .refl s
  · split
    · exact .emptyLatch s _
    · split
      · exact .refl s
      · exact .noteMean s _

theorem Quiet.answerSurvey (s : State) (args : List Byte) : Quiet s (s.answerSurvey args).2 := by
  unfold State.answerSurvey
  split
  · split <;> exact .refl s
  · exact .refl s

theorem Moves.answerSweepRequest (s : State) (args : List Byte) : Moves s (s.answerSweepRequest args).2 := by
  unfold State.answerSweepRequest
  split
  · exact .refl s
  · split
    · exact .refl s
    · split
      · exact .refl s
      · exact .startSweep s _

theorem Moves.answerRelease (s : State) (args : List Byte) : Moves s (s.answerRelease args).2 := by
  unfold State.answerRelease
  split
  · exact .refl s
  · split
    · exact .releaseString s _ ‹_›
    · exact .refl s

theorem Moves.answerClearTrip (s : State) (args : List Byte) : Moves s (s.answerClearTrip args).2 := by
  unfold State.answerClearTrip
  split
  · exact .setGas s _ _
  · exact .refl s

/-- The counters at 0 have no bound to keep. -/
theorem FramePath.Bounded.clearCounters {fp : FramePath} (h : fp.Bounded) : fp.clearCounters.Bounded :=
  ⟨h.chainForward, h.chainLocal, h.trunkForward, h.trunkLocal⟩

theorem Quiet.answerStatus (s : State) (args : List Byte) : Quiet s (s.answerStatus args).2 := by
  unfold State.answerStatus
  dsimp only
  split
  · exact .refl s
  · dsimp only
    split
    · exact .setFp s _ fun h => h.clearCounters
    · exact .refl s

/-! ## The warm restart -/

theorem Moves.restartBay (s : State) (b : BayNo) : Moves s (s.restartBay b) := by
  unfold State.restartBay
  split
  · exact .refl s
  · rename_i linked
    split
    · exact .endInBaseline s b _ _ _ linked
    · exact (Moves.endJob s b ⟨.abnormal, .restart⟩).trans (Quiet.moves (.modRun _ _ _ fun _ => ⟨rfl, rfl⟩))

/-- A SETTLING string enters FLOAT (R106, R110). -/
theorem Moves.settled {s : State} {i : StringNo} (settling : (s.str i).state = .settling) :
    Moves s ((s.modStr i fun r => { r with settle := .stopped }).enterFloat i) := by
  refine .trans ?_ (.trigger _)
  refine .trans (Quiet.modRun s i _ ?_).moves (.loosen _ i _ ?_ ?_ ?_ ?_)
  · exact fun _ => ⟨rfl, rfl⟩
  · rw [s.str_modStr]; exact .inr (.inr settling)
  · exact .inr (.inl rfl)
  · rfl
  · exact fun _ => rfl

theorem Moves.restartSettling (s : State) (i : StringNo) : Moves s (s.restartSettling i) :=
  .ite s _ _ .settled

theorem Quiet.restartRequests (s : State) : Quiet s s.restartRequests :=
  (Quiet.setRequests s [] fun _ => List.Pairwise.nil).trans (.mapStrings _ _ (fun _ _ => rfl) fun _ _ h => h)

theorem Cell.Bounded.restart (c : Cell) : c.restart.Bounded := ⟨Nat.zero_le 2, Nat.zero_le 2, Nat.zero_le 2⟩

theorem StringRec.restart_link (r : StringRec) : r.restart.link = r.link := by
  unfold StringRec.restart
  dsimp only
  split <;> rfl

theorem StringRec.restart_cell (r : StringRec) (p : Position) : r.restart.cell p = (r.cell p).restart := by
  have h : r.restart.cells = (r.mapCells fun _ c => c.restart).cells := by
    unfold StringRec.restart
    dsimp only
    split <;> rfl
  unfold StringRec.cell
  rw [h]
  exact StringRec.cell_mapCells r _ p

theorem Quiet.restartIntake (s : State) : Quiet s s.restartIntake :=
  (Quiet.setTables s {} s.silenceTimeout s.ceiling s.sourceMap s.profiles s.pending).trans
    (.mapStrings _ _ (fun _ r => r.restart_link) fun _ r _ p => by rw [r.restart_cell]; exact .restart _)

theorem Quiet.restartPath (s : State) : Quiet s { s with fp := s.fp.restart } :=
  .setFp s _ fun h => ⟨h.chainForward, h.chainLocal, h.trunkForward, h.trunkLocal⟩

theorem Quiet.restartLatches (s : State) : Quiet s s.restartLatches := .setMgmt s _ id id

theorem Moves.warmRestart (s : State) : Moves s s.warmRestart := by
  have sweeps := (Quiet.restartPath s).trans (.foldl State.stopSweep .stopSweep allStrings _)
  have bays := sweeps.moves.trans (.foldl State.restartBay .restartBay allBays _)
  have strings := bays.trans (.foldl State.restartSettling .restartSettling allStrings _)
  have water := strings.trans (.restartWater _)
  have requests := water.trans (Quiet.restartRequests _).moves
  have intake := requests.trans (Quiet.restartIntake _).moves
  exact (intake.trans (Quiet.restartGas _).moves).trans (Quiet.restartLatches _).moves

end Sys2Proof.Machine
end

section
/-! PROOF. Every step keeps the laws of the part (O57 to O60): each command settles, that is, moves the skeleton as the manual
allows and leaves no evaluation due. -/

namespace Sys2Proof.Machine

open Sys2Proof

/-! ## The evaluation leaves none due (R75) -/

@[simp] theorem State.enterFloat_evalDue (s : State) (i : StringNo) : (s.enterFloat i).evalDue = true := rfl

theorem State.sweepComplete_evalDue (s : State) (i : StringNo) : (s.sweepComplete i).evalDue = s.evalDue := by
  unfold State.sweepComplete State.startStep
  split
  · rename_i b _ _
    exact (Quiet.beginStep _ _ _ _).due.trans
      (((Quiet.modBay s b _ rfl).trans (.notePeak _ b i)).trans (.newSetpoint _ b i)).due
  · rfl

theorem State.startSweep_evalDue (s : State) (i : StringNo) : (s.startSweep i).evalDue = s.evalDue := by
  unfold State.startSweep
  split
  · exact s.sweepComplete_evalDue i
  · exact (Quiet.sweepNext _ i).due

theorem State.baselineSweep_evalDue (s : State) (i : StringNo) : (s.baselineSweep i).evalDue = s.evalDue := by
  unfold State.baselineSweep
  split
  · rfl
  · exact s.startSweep_evalDue i

theorem State.grantEqualise_evalDue (s : State) (i : StringNo) (b : BayNo) (limit : Nat) (reduced : Bool) :
    (s.grantEqualise i b limit reduced).evalDue = s.evalDue := by
  unfold State.grantEqualise
  exact ((Quiet.noteBayEntry _).due.trans (State.baselineSweep_evalDue _ i)).trans (Quiet.takeTwo _ _ _).due

theorem State.bayPick_evalDue (s : State) : s.bayPick.evalDue = s.evalDue := by
  unfold State.bayPick
  split
  · rfl
  · split
    · rfl
    · exact State.grantEqualise_evalDue _ _ _ _ _

/-- The takes of a watering grant leave what the next-fill step reads. -/
theorem State.takeValves_eq (s : State) (l : List Byte) :
    l.foldl (fun s a => s.takeHold a .manifold) s =
      { s with fp := (l.foldl (fun s a => s.takeHold a .manifold) s).fp,
               holds := (l.foldl (fun s a => s.takeHold a .manifold) s).holds } :=
  foldl_keeps (fun t : State => t = { s with fp := t.fp, holds := t.holds }) _
    (fun t a ht => by rw [State.takeHold_eq]; dsimp only; rw [ht]) l s rfl

/-- A next-fill step that opens the head of the list. -/
theorem State.nextFill_open {s : State} {i : StringNo} {p : Position} {rest : List Position}
    (state : s.water.round.state = .filling) (fill : s.water.round.fill = none) (close : s.water.pendingClose = none)
    (string : s.water.round.string = some i) (list : s.water.round.fillList = p :: rest)
    (covered : (s.volumeOf i p : Int) ≤ s.water.available) : s.nextFill = s.openFill i p rest := by
  unfold State.nextFill
  rw [if_pos ⟨state, fill, close⟩]
  simp only [string, list]
  rw [if_neg covered.not_gt]

/-- While a CLOSE is pending the next-fill step waits (R125). -/
theorem State.nextFill_of_pendingClose {s : State} (close : s.water.pendingClose ≠ none) : s.nextFill = s :=
  if_neg fun h => close h.2.2

/-- A cell's configuration does not depend on its string's state. -/
theorem State.volumeOf_modStr_state (s : State) (i j : StringNo) (st : StringState) (p : Position) :
    (s.modStr i fun r => { r with state := st }).volumeOf j p = s.volumeOf j p := by
  unfold State.volumeOf State.cell
  by_cases e : j = i
  · subst e; rw [s.str_modStr]; rfl
  · rw [s.str_modStr_ne i j _ e]; rfl

/-- The state in which a watering grant takes the next-fill step. -/
def State.wateringGranted (s : State) (i : StringNo) (src : SourceSet) : State :=
  (s.valveAddrs.foldl (fun s a => s.takeHold a .manifold)
    ((s.modRound fun _ => { state := .filling, string := some i, build := some (buildOf src), startMinute := s.minute,
                            fillList := s.fillListFor i (buildOf src) }).modStr i fun r => { r with state := .watering }))

theorem State.grantWatering_eq (s : State) (i : StringNo) (src : SourceSet) :
    s.grantWatering i src = (s.wateringGranted i src).nextFill := rfl

/-- What a watering grant writes before the next-fill step. -/
theorem State.wateringGranted_eq (s : State) (i : StringNo) (src : SourceSet) :
    s.wateringGranted i src =
      { ((s.modRound fun _ => { state := .filling, string := some i, build := some (buildOf src), startMinute := s.minute,
                                fillList := s.fillListFor i (buildOf src) }).modStr i
          fun r => { r with state := .watering }) with
        fp := (s.wateringGranted i src).fp, holds := (s.wateringGranted i src).holds } :=
  State.takeValves_eq _ _

/-- The grant of an eligible entry opens the head of its Fill List, or waits for a CLOSE. -/
theorem State.grantWatering_cases {s : State} {i : StringNo} {src : SourceSet} {p : Position} {rest : List Position}
    (list : s.fillListFor i (buildOf src) = p :: rest) (covered : (s.volumeOf i p : Int) ≤ s.water.available) :
    s.grantWatering i src = s.wateringGranted i src ∨ s.grantWatering i src = (s.wateringGranted i src).openFill i p rest := by
  rw [State.grantWatering_eq]
  have hwater := congrArg State.water (s.wateringGranted_eq i src)
  by_cases close : s.water.pendingClose = none
  · refine .inr (State.nextFill_open ?_ ?_ ?_ ?_ ?_ ?_)
    · rw [hwater]; rfl
    · rw [hwater]; rfl
    · rw [hwater]; exact close
    · rw [hwater]; rfl
    · rw [hwater]; exact list
    · have hvolume : (s.wateringGranted i src).volumeOf i p = s.volumeOf i p := by
        rw [State.wateringGranted_eq]
        exact State.volumeOf_modStr_state (s.modRound _) i i .watering p
      rw [hvolume, hwater]
      exact covered
  · refine .inl (State.nextFill_of_pendingClose ?_)
    rw [hwater]
    exact close

theorem State.wateringGranted_evalDue (s : State) (i : StringNo) (src : SourceSet) :
    (s.wateringGranted i src).evalDue = s.evalDue := by
  rw [State.wateringGranted_eq]; rfl

theorem State.manifoldPick_evalDue (s : State) : s.manifoldPick.evalDue = s.evalDue := by
  unfold State.manifoldPick
  split
  · rfl
  · rename_i e hpick
    obtain ⟨-, heligible⟩ := List.mem_filter.1 (pick_mem hpick)
    obtain ⟨-, -, -, -, p, rest, list, covered⟩ := (s.wateringEligible_iff e).1 heligible
    obtain h | h := State.grantWatering_cases (s := s.dropEntry e.string .watering) (i := e.string) (src := e.sources)
      list covered <;> rw [h]
    · exact State.wateringGranted_evalDue _ _ _
    · exact (Quiet.openFill _ _ _ _).due.trans (State.wateringGranted_evalDue _ _ _)

theorem State.evaluate_evalDue (s : State) : s.evaluate.evalDue = s.evalDue :=
  (State.manifoldPick_evalDue _).trans ((State.bayPick_evalDue _).trans s.bayPick_evalDue)

/-! ## What a command keeps -/

/-- The operation moves the skeleton as the manual allows, and leaves no evaluation due where none was. -/
structure Settles (s t : State) : Prop extends Moves s t where
  due : s.evalDue = false → t.evalDue = false

theorem Quiet.settles {s t : State} (h : Quiet s t) : Settles s t := ⟨h.moves, fun e => h.due.trans e⟩

theorem Settles.refl (s : State) : Settles s s := (Quiet.refl s).settles

theorem Settles.trans {s t u : State} (a : Settles s t) (b : Settles t u) : Settles s u :=
  ⟨a.toMoves.trans b.toMoves, b.due ∘ a.due⟩

theorem Settles.foldl {α : Type} (f : State → α → State) (step : ∀ s a, Settles s (f s a)) (l : List α) (s : State) :
    Settles s (l.foldl f s) :=
  foldl_keeps (Settles s) f (fun t a h => h.trans (step t a)) l s (.refl s)

theorem Settles.ite (s t : State) (c : Prop) [Decidable c] (h : c → Settles s t) : Settles s (if c then t else s) := by
  split
  · exact h ‹_›
  · exact .refl s

theorem Moves.settle (s : State) : Moves s s.settle := by
  unfold State.settle
  split
  · have cleared : Moves s { s with evalDue := false } :=
      Calm.still ⟨fun h => ⟨h.fp, h.input, h.results, h.requests, h.holds, h.strings, h.gas⟩, .inl (.refl _)⟩ rfl
    exact cleared.trans (.evaluate _)
  · exact .refl s

theorem State.settle_evalDue (s : State) : s.settle.evalDue = false := by
  unfold State.settle
  split
  · exact State.evaluate_evalDue _
  · rename_i h
    exact Bool.eq_false_iff.2 h

/-- An action that ends in its evaluation. -/
theorem Moves.settles {s t : State} (h : Moves s t) : Settles s t.settle :=
  ⟨h.trans (.settle t), fun _ => t.settle_evalDue⟩

/-! ## Frames and bytes -/

theorem Quiet.queueRequest (s : State) (r : Request) : Quiet s (s.queueRequest r) := by
  unfold State.queueRequest
  split
  · rename_i room
    exact .setMgmt s _ (fun _ => by rw [List.length_append]; exact room) id
  · exact .countDownDrop s

theorem Quiet.trunkReceived (s : State) (f : Frame) : Quiet s (s.trunkReceived f) := by
  unfold State.trunkReceived
  split
  · exact .countBad s _
  · split
    · split
      · exact .queueRequest s _
      · exact .countBad s _
    · split
      · split
        · exact .offerUp s _
        · exact .forwardDown s f
      · exact .forwardDown s f

theorem Quiet.notTakenIn (s : State) (f : Frame) : Quiet s (s.notTakenIn f) := by
  unfold State.notTakenIn
  split
  · exact (Quiet.countUnmapped s).trans (.forwardUp _ f)
  · split
    · exact (Quiet.countUnmapped s).trans (.forwardUp _ f)
    · exact .countUnmapped s

theorem Settles.chainReceived (s : State) (f : Frame) : Settles s (s.chainReceived f) := by
  unfold State.chainReceived
  split
  · exact (Quiet.countBad s _).settles
  · split
    · exact (Quiet.forwardUp s f).settles
    · split
      · exact (Quiet.notTakenIn s f).settles
      · split
        · exact (Moves.handleReport s _ _).settles.trans (Quiet.forwardUp _ f).settles
        · exact (Moves.handleReport s _ _).settles

theorem Settles.rxEvent (s : State) (p : Port) (e : RxEvent) : Settles s (s.rxEvent p e) := by
  cases e with
  | quiet => exact .refl s
  | dropped => exact (Quiet.countBad s p).settles
  | complete f =>
    cases p
    · exact (Quiet.trunkReceived s f).settles
    · exact .chainReceived s f

theorem Quiet.setReceiver (s : State) (p : Port) (r : Receiver) : Quiet s (s.modPort p fun q => { q with rx := r }) :=
  .shrinkPort s p _ le_rfl le_rfl

theorem Settles.byteIn (p : Port) (s : State) (b : Byte) : Settles s (s.byteIn p b) :=
  (Quiet.setReceiver s p _).settles.trans (.rxEvent _ p _)

theorem Settles.bytesIn (s : State) (p : Port) (l : List Byte) : Settles s (s.bytesIn p l) :=
  .foldl (State.byteIn p) (Settles.byteIn p) l s

theorem Settles.errorIn (s : State) (p : Port) : Settles s (s.errorIn p) :=
  (Quiet.setReceiver s p _).settles.trans (.rxEvent _ p _)

/-! ## Transmissions, offers and replies -/

theorem Quiet.transmissionEnded (s : State) (p : Port) : Quiet s (s.transmissionEnded p) := by
  unfold State.transmissionEnded
  split
  · exact .refl s
  · obtain ⟨hlocal, hforward, -, -⟩ := PortState.arbitrate_bounds { s.fp.port p with sending := none }
    exact .shrinkPort s p _ hlocal hforward

theorem Moves.offerTaken (s : State) (o : Offer) : Moves s (s.offerTaken o) := by
  unfold State.offerTaken
  split
  · exact (Quiet.bayTaken s _ _).moves
  · exact ((Quiet.noteAsked s _ _).trans (.sweepNext _ _)).moves
  · exact (Quiet.openTaken s).moves
  · exact .closeTaken s
  · exact .refl s

theorem Settles.takeOffer (s : State) : Settles s s.takeOffer := by
  unfold State.takeOffer
  split
  · exact .refl s
  · rename_i o rest _
    split
    · rename_i room
      exact Moves.settles ((((Quiet.counters s rest _ _ _).trans (.takeCmd _ o.cmd room)).moves).trans (.offerTaken _ o))
    · exact .refl s

theorem Settles.replyTaken (s : State) (reply : Frame) (restart : Bool) (room : s.trunkLocalRoom = true) :
    Settles s (s.replyTaken reply restart) := by
  have taken : Quiet s ({ s with mgmt := { s.mgmt with mu := .idle } }.modPort .trunk (·.pushLocal reply)) :=
    (Quiet.setMgmt s { s.mgmt with mu := .idle } id id).trans
      (.pushLocal { s with mgmt := { s.mgmt with mu := .idle } } .trunk reply (of_decide_eq_true room))
  unfold State.replyTaken
  dsimp only
  split
  · exact (taken.moves.trans (.warmRestart _)).settles
  · exact taken.settles

/-! ## Requests -/

theorem Quiet.takeFromInput (s : State) (r : Request) (rest : List Request) (h : s.mgmt.input = r :: rest) :
    Quiet s { s with mgmt := { s.mgmt with input := rest } } :=
  .setMgmt s _ (fun hr => by rw [h, List.length_cons] at hr; exact Nat.le_of_succ_le hr) id

theorem Settles.takeRequest (s : State) (k : RequestKind) (answer : State → List Byte → Answer)
    (h : ∀ t args, Moves t (answer t args).2) : Settles s (s.takeRequest k answer) := by
  unfold State.takeRequest
  split
  · rename_i r rest _ hinput
    refine .ite s _ _ fun _ => ?_
    exact Settles.trans (((Quiet.takeFromInput s r rest hinput).moves.trans (h _ _)).settles) (Quiet.sendReply _ _ _ _).settles
  · exact .refl s

theorem Settles.takeRestart (s : State) : Settles s s.takeRestart := by
  unfold State.takeRestart
  split
  · rename_i r rest _ hinput
    refine .ite s _ _ fun _ => ?_
    refine (Quiet.takeFromInput s r rest hinput).settles.trans ?_
    dsimp only
    split
    · exact .replyTaken _ _ true ‹_›
    · exact Quiet.settles (.setMgmt _ _ id id)
  · exact .refl s

/-! ## Time -/

@[simp] theorem Bay.tick_link (r : Bay) : r.tick.link = r.link := rfl
@[simp] theorem StringRec.tick_link (r : StringRec) : r.tick.link = r.link := rfl

/-- One second passes for every string and every bay. -/
theorem State.tick_eq {s : State} (h : s.clock.second < Config.maxSecond) :
    (∀ i, s.tick.str i = (s.str i).tick) ∧ ∀ b, s.tick.bay b = (s.bay b).tick := by
  unfold State.tick
  rw [if_pos h]
  exact ⟨fun i => tabulate_get _ i, fun b => tabulate_get _ b⟩

theorem Quiet.tick (s : State) : Quiet s s.tick := by
  by_cases h : s.clock.second < Config.maxSecond
  · obtain ⟨hstr, hbay⟩ := State.tick_eq h
    have hskeleton : s.tick.skeleton = s.skeleton := by
      unfold State.skeleton
      simp only [hstr, hbay, Bay.tick_link, StringRec.tick_link]
      unfold State.tick
      rw [if_pos h]
    have hrest : s.tick.fp = s.fp ∧ s.tick.mgmt = s.mgmt ∧ s.tick.requests = s.requests ∧ s.tick.holds = s.holds ∧
        s.tick.gas = s.gas.tick ∧ s.tick.evalDue = s.evalDue := by
      unfold State.tick
      rw [if_pos h]
      exact ⟨rfl, rfl, rfl, rfl, rfl, rfl⟩
    obtain ⟨hfp, hmgmt, hrequests, hholds, hgas, hdue⟩ := hrest
    refine ⟨fun hb => ⟨hfp ▸ hb.fp, hmgmt ▸ hb.input, hmgmt ▸ hb.results, by unfold OneEntryPerPair; rw [hrequests]; exact hb.requests,
      by unfold OneHoldPerAddress; rw [hholds]; exact hb.holds,
      fun i => ?_, ?_⟩, hskeleton, ?_, hdue⟩
    · rw [hstr i]
      exact hb.strings i
    · rw [hgas]
      exact ⟨hb.gas.qualifier, hb.gas.filter⟩
    · rw [hgas]
      exact ⟨rfl, rfl, rfl⟩
  · unfold State.tick
    rw [if_neg h]
    exact .refl s

theorem Settles.execs {s t : State} {o : Host.Outcome State Fault Refusal} (h : o = .next t) {u : State} (e : o = .next u)
    (k : Settles s u) : Settles s t := by
  have : t = u := Host.Outcome.next.inj (h.symm.trans e)
  exact this ▸ k

end Sys2Proof.Machine
end

section
/-! PROOF. Reset and the step: the laws of the part hold at reset (O3, O4) and every step keeps them (O1, O57 to O60). -/

namespace Sys2Proof.Machine

open Sys2Proof

/-! ## Reset (R185) -/

/-- Settles O1. -/
theorem stepRunsFrontCommand : Obligations.StepRunsFrontCommand := fun _ _ => rfl

@[simp] theorem State.reset_str (i : StringNo) : State.reset.str i = {} := Vector.getElem_replicate _
@[simp] theorem State.reset_bay (b : BayNo) : State.reset.bay b = {} := Vector.getElem_replicate _

@[simp] theorem State.reset_cell (i : StringNo) (p : Position) : State.reset.cell i p = {} := by
  unfold State.cell
  rw [State.reset_str]
  exact Vector.getElem_replicate _

theorem State.withinCapacity_reset : WithinCapacity State.reset := by constructor <;> decide

theorem State.agreeCountsInRange_reset : AgreeCountsInRange State.reset where
  ov i p := by rw [State.reset_cell]; decide
  ot i p := by rw [State.reset_cell]; decide
  level i p := by rw [State.reset_cell]; decide
  gas := by decide
  filter := by decide

theorem State.withinBudget_reset : WithinBudget State.reset := by
  unfold WithinBudget
  rw [State.busySum_eq]
  simp

theorem State.baysLinked_reset : BaysLinked State.reset := by
  have hround : State.reset.water.round = {} := rfl
  constructor <;> simp [hround]

theorem State.statDriven_reset : StatDriven State.reset := by unfold StatDriven; decide

/-- Settles O4, law by law. -/
theorem lawsHoldAtReset : Obligations.LawsHoldAtReset :=
  ⟨State.withinCapacity_reset, .nil, .nil, State.withinBudget_reset, State.statDriven_reset,
    State.agreeCountsInRange_reset, State.baysLinked_reset, rfl⟩

/-- Settles O3, field by field of the cold state. -/
theorem coldResetStartsAtColdState : Obligations.ColdResetStartsAtColdState := by
  intro node baud s
  have hstr : ∀ i, (s.coldReset node baud).str i = {} := State.reset_str
  refine ⟨s.coldReset node baud, rfl, rfl, rfl, rfl, rfl, fun p => ?_, rfl, rfl, rfl, rfl, rfl, Nat.zero_div 60, rfl, rfl, rfl, rfl,
    fun i => ?_, State.reset_bay, rfl, rfl, rfl, rfl, rfl, rfl, rfl, rfl, rfl, rfl, rfl, rfl, rfl, rfl,
    fun i => Vector.getElem_replicate _⟩
  · cases p <;> exact ⟨rfl, rfl, rfl, rfl, rfl, rfl⟩
  · rw [hstr i]
    exact ⟨rfl, rfl, rfl, rfl, rfl, rfl, rfl, rfl⟩

/-- A cold reset leaves the part as at reset, but for the straps and the model's queue of commands. -/
theorem Quiet.coldReset (s : State) (node : BitVec 3) (baud : PinLevel) : Quiet State.reset (s.coldReset node baud) :=
  ⟨fun b => ⟨b.fp, b.input, b.results, b.requests, b.holds, b.strings, b.gas⟩, rfl, .refl _, rfl⟩

/-! ## The commands of the part's own time -/

theorem State.expiring_eq_some {s : State} {b : BayNo} {timer : Bay → Timer} {states : List StringState} {i : StringNo} :
    s.expiring b timer states = some i ↔
      (timer (s.bay b)).due = true ∧ (s.bay b).string = some i ∧ (s.str i).state ∈ states := by
  unfold State.expiring
  split
  · rename_i hdue
    cases hstring : (s.bay b).string with
    | none => simp
    | some j =>
      by_cases hstate : (s.str j).state ∈ states
      · simp only [hdue, hstate, if_true, Option.some.injEq, true_and]
        exact ⟨fun e => ⟨e, e ▸ hstate⟩, And.left⟩
      · simp only [hstate, if_false, Option.some.injEq, reduceCtorEq, false_iff]
        rintro ⟨-, rfl, h⟩
        exact hstate h
  · rename_i hdue
    exact ⟨nofun, fun h => absurd h.1 hdue⟩

theorem Settles.deliverHour (s : State) : Settles s s.deliverHour := by
  unfold State.deliverHour
  refine .ite s _ _ fun _ => Moves.settles (.trans (t := { s with clock := { s.clock with hourDue := false } }) ?_ (.hourTicked _))
  exact Quiet.moves (.setTables s _ _ _ _ _ _)

theorem Settles.endRetryHold (s : State) (i : StringNo) : Settles s (s.endRetryHold i) :=
  .ite s _ _ fun _ => Moves.settles
    (.trans (Quiet.moves (.modRun s i (fun r => { r with retryHold := none }) fun _ => ⟨rfl, rfl⟩)) (.trigger _))

theorem Settles.setPresence (s : State) (i : StringNo) (p : Presence) (c : Prop) [Decidable c] :
    Settles s (if c then (s.setPresence i p).settle else s) :=
  .ite s _ c fun _ => (Moves.setPresence s i p).settles

/-- An expiry of a bay's timer acts when it is due, and else does nothing. -/
theorem Settles.expiry {s t : State} {b : BayNo} {timer : Bay → Timer} {states : List StringState} {f : StringNo → State}
    (h : (match s.expiring b timer states with | none => Host.Outcome.next s | some i => .next (f i).settle) =
      (.next t : Host.Outcome State Fault Refusal))
    (moves : ∀ i, (s.bay b).string = some i → Moves s (f i)) : Settles s t := by
  split at h
  · exact .execs h rfl (.refl s)
  · rename_i i hi
    exact .execs h rfl (moves i (State.expiring_eq_some.1 hi).2.1).settles

theorem Settles.mgmtReplyTaken {s t : State} (h : execMgmtReplyTaken s = .next t) : Settles s t := by
  unfold execMgmtReplyTaken at h
  split at h
  · exact .execs h rfl (.refl s)
  · exact .execs h rfl (.ite s _ _ (.replyTaken s _ _))

theorem Settles.warmRestartTaken {s t : State} (h : execWarmRestart s = .next t) : Settles s t := by
  unfold execWarmRestart at h
  split at h
  · exact .execs h rfl (.ite s _ _ (.replyTaken s _ _))
  · exact .execs h rfl (.refl s)

theorem Settles.settleExpiry (s : State) (i : StringNo) :
    Settles s (if s.settleDue i then ((s.modStr i fun r => { r with settle := .stopped }).enterFloat i).settle else s) := by
  refine .ite s _ _ fun h => (Moves.settled ?_).settles
  unfold State.settleDue at h
  rw [Bool.and_eq_true] at h
  exact of_decide_eq_true h.1

theorem Settles.fillTimerExpiry {s t : State} (h : execFillTimerExpiry s = .next t) : Settles s t := by
  unfold execFillTimerExpiry at h
  split at h
  · rename_i f _ _
    exact .execs h rfl (.ite s _ _ fun _ => (Moves.fillExpired s f).settles)
  · exact .execs h rfl (.refl s)

/-! ## Every command -/

/-- Every command but the cold reset settles (R75, R184). -/
theorem exec_settles {c : Instr} {s t : State} (h : exec c s = .next t) :
    Settles s t ∨ ∃ node baud, c = .coldReset node baud := by
  cases c with
  | coldReset node baud => exact .inr ⟨node, baud, rfl⟩
  | lineError p bytes => exact .inl (.execs h rfl ((Settles.bytesIn s p bytes).trans (.errorIn _ p)))
  | badFrame p bytes => exact .inl (.execs h rfl (.bytesIn s p bytes))
  | mgmtRequest | trunkFrameForward | heldAddressRefusal => exact .inl (.execs h rfl (.bytesIn s .trunk _))
  | chainFrameForward | cellReport | stringReport | levelReport | valveReport | switchReport | chargerReport | gasReport =>
    exact .inl (.execs h rfl (.bytesIn s .chain _))
  | transmissionEnd p => exact .inl (.execs h rfl (Quiet.transmissionEnded s p).settles)
  | chainLocalOfferTaken => exact .inl (.execs h rfl (.takeOffer s))
  | mgmtReplyTaken => exact .inl (.mgmtReplyTaken h)
  | tableWriteSite => exact .inl (.execs h rfl (.takeRequest s _ _ fun t _ => .writeSite t _))
  | tableWriteSourceMap => exact .inl (.execs h rfl (.takeRequest s _ _ fun t _ => (Quiet.writeSourceMap t _).moves))
  | tableWriteString => exact .inl (.execs h rfl (.takeRequest s _ _ fun t _ => .writeString t _))
  | tableWriteCell => exact .inl (.execs h rfl (.takeRequest s _ _ fun t _ => .writeCell t _))
  | tableWriteProfile => exact .inl (.execs h rfl (.takeRequest s _ _ fun t _ => .writeProfile t _))
  | tableRead => exact .inl (.execs h rfl (.takeRequest s _ _ fun t _ => .refl t))
  | restore => exact .inl (.execs h rfl (.takeRequest s _ _ .answerRestore))
  | jobStart => exact .inl (.execs h rfl (.takeRequest s _ _ .answerJobStart))
  | jobCancel => exact .inl (.execs h rfl (.takeRequest s _ _ .answerJobCancel))
  | setCeiling => exact .inl (.execs h rfl (.takeRequest s _ _ .answerSetCeiling))
  | setTank => exact .inl (.execs h rfl (.takeRequest s _ _ .answerSetTank))
  | fetchResult => exact .inl (.execs h rfl (.takeRequest s _ _ fun t a => (Quiet.answerFetch t a).moves))
  | snapshot => exact .inl (.execs h rfl (.takeRequest s _ _ fun t a => (Quiet.answerSnapshot t a).moves))
  | readSnapshot => exact .inl (.execs h rfl (.takeRequest s _ _ fun t a => (Quiet.answerReadSnapshot t a).moves))
  | survey => exact .inl (.execs h rfl (.takeRequest s _ _ fun t a => (Quiet.answerSurvey t a).moves))
  | sweep => exact .inl (.execs h rfl (.takeRequest s _ _ .answerSweepRequest))
  | release => exact .inl (.execs h rfl (.takeRequest s _ _ .answerRelease))
  | clearTrip => exact .inl (.execs h rfl (.takeRequest s _ _ .answerClearTrip))
  | status => exact .inl (.execs h rfl (.takeRequest s _ _ fun t a => (Quiet.answerStatus t a).moves))
  | restart => exact .inl (.execs h rfl (.takeRestart s))
  | warmRestart => exact .inl (.warmRestartTaken h)
  | unknownRequest => exact .inl (.execs h rfl (.takeRequest s _ _ fun t _ => .refl t))
  | hourTick => exact .inl (.execs h rfl (.deliverHour s))
  | censusExpiry i => exact .inl (.execs h rfl (.setPresence s i .missing _))
  | presenceTimeout i => exact .inl (.execs h rfl (.setPresence s i .missing _))
  | sweepTimeout i => exact .inl (.execs h rfl (.ite s _ _ fun _ => (Moves.sweepExpired s i).settles))
  | confirmExpiryOut b => exact .inl (.expiry h fun _ _ => .endJob s b _)
  | confirmExpiryBack b => exact .inl (.expiry h fun i => .confirmBackExpired s b i)
  | sampleTimerExpiry b => exact .inl (.expiry h fun _ _ => .endJob s b _)
  | windowExpiry b => exact .inl (.expiry h fun i _ => .windowExpired s b i)
  | durationExpiry b => exact .inl (.expiry h fun _ _ => .endJob s b _)
  | holdTimerExpiry b => exact .inl (.expiry h fun _ _ => .endJob s b _)
  | settleExpiry i => exact .inl (.execs h rfl (.settleExpiry s i))
  | retryHoldEnd i => exact .inl (.execs h rfl (.endRetryHold s i))
  | lostTimerExpiry => exact .inl (.execs h rfl (.ite s _ _ fun _ => (Moves.sensorSilent s).settles))
  | runOnExpiry => exact .inl (.execs h rfl (Quiet.runOnExpired s).moves.settles)
  | fillTimerExpiry => exact .inl (.fillTimerExpiry h)
  | endingFillExpiry => exact .inl (.execs h rfl (.ite s _ _ fun _ => (Moves.finishCancelled s).settles))
  | tripInputLow => exact .inl (.execs h rfl (Moves.tripSample s .low).settles)
  | tripInputHigh => exact .inl (.execs h rfl (Moves.tripSample s .high).settles)
  | tripFilterSample l => exact .inl (.execs h rfl (Moves.tripSample s l).settles)

/-- A step runs a command that settles, resets the part, or lets a second pass. -/
theorem step_settles {s t : State} (h : step s = .next t) : Settles s t ∨ ∃ node baud, ∃ u : State, t = u.coldReset node baud := by
  unfold step at h
  split at h
  · rename_i c rest _
    obtain k | ⟨node, baud, rfl⟩ := exec_settles h
    · exact .inl ((Quiet.setTables s _ _ _ _ _ rest).settles.trans k)
    · exact .inr ⟨node, baud, _, (Host.Outcome.next.inj h).symm⟩
  · split at h
    · obtain k | ⟨node, baud, rfl⟩ := exec_settles h
      · exact .inl k
      · exact .inr ⟨node, baud, s, (Host.Outcome.next.inj h).symm⟩
    · exact .inl (.execs h rfl (Quiet.tick s).settles)

/-! ## The laws, kept by every step -/

/-- Settles O57: no operation of the part breaks a bound. -/
theorem stepKeepsQueuesAndLists : Obligations.StepKeepsQueuesAndLists := by
  intro s t capacity pairs addresses counts h
  rw [← bounds_iff]
  obtain k | ⟨node, baud, u, rfl⟩ := step_settles h
  · exact k.bounds ((bounds_iff s).2 ⟨capacity, pairs, addresses, counts⟩)
  · exact (Quiet.coldReset u node baud).bounds <|
      (bounds_iff _).2 ⟨State.withinCapacity_reset, .nil, .nil, State.agreeCountsInRange_reset⟩

/-- Settles O58: every move of the skeleton keeps the budget. -/
theorem stepKeepsBudget : Obligations.StepKeepsBudget := by
  intro s t budget h
  obtain k | ⟨node, baud, u, rfl⟩ := step_settles h
  · exact (State.withinBudget_iff t).2 (k.move.withinBudget budget)
  · exact State.withinBudget_reset

/-- Settles O59: STAT is driven wherever a cause of it changes, and every action ends in its evaluation. -/
theorem stepKeepsStatAndEvaluations : Obligations.StepKeepsStatAndEvaluations := by
  intro s t stat due h
  obtain k | ⟨node, baud, u, rfl⟩ := step_settles h
  · exact ⟨k.drives.statOk stat, k.due due⟩
  · exact ⟨State.statDriven_reset, rfl⟩

/-- Settles O60: every move of the skeleton keeps strings, bays and the round linked. -/
theorem stepKeepsBaysLinked : Obligations.StepKeepsBaysLinked := by
  intro s t linked h
  obtain k | ⟨node, baud, u, rfl⟩ := step_settles h
  · exact (State.linked_skeleton_iff t).1 (k.move.linked ((State.linked_skeleton_iff s).2 linked))
  · rw [← State.linked_skeleton_iff, (Quiet.coldReset u node baud).skeleton]
    exact (State.linked_skeleton_iff State.reset).2 State.baysLinked_reset

end Sys2Proof.Machine
end

section
/-! PROOF. The line: a receiver reads a frame back as it was put there, and every event of a receiver has the effect that the
rules give it (O5, O7 to O13). -/

namespace Sys2Proof.Machine

open Sys2Proof

/-! ## The receiver reads bytes (R3) -/

/-- The state with this receiver at the port. -/
def State.setRx (s : State) (p : Port) (r : Receiver) : State := s.modPort p fun q => { q with rx := r }

theorem FramePath.setPort_port (fp : FramePath) (p : Port) : fp.setPort p (fp.port p) = fp := by cases p <;> rfl

theorem FramePath.setPort_setPort (fp : FramePath) (p : Port) (q q' : PortState) :
    (fp.setPort p q).setPort p q' = fp.setPort p q' := by cases p <;> rfl

theorem State.modPort_modPort (s : State) (p : Port) (f g : PortState → PortState) :
    (s.modPort p f).modPort p g = s.modPort p (g ∘ f) := by
  unfold State.modPort
  simp only [FramePath.port_setPort, FramePath.setPort_setPort, Function.comp]

@[simp] theorem State.rx_setRx (s : State) (p : Port) (r : Receiver) : ((s.setRx p r).fp.port p).rx = r := by
  unfold State.setRx State.modPort
  rw [FramePath.port_setPort]

@[simp] theorem State.setRx_setRx (s : State) (p : Port) (r r' : Receiver) : (s.setRx p r).setRx p r' = s.setRx p r' :=
  s.modPort_modPort p _ _

theorem State.setRx_self {s : State} {p : Port} {r : Receiver} (h : (s.fp.port p).rx = r) : s.setRx p r = s := by
  subst h
  unfold State.setRx State.modPort
  rw [FramePath.setPort_port]

section
variable (s : State) (p : Port)

theorem State.byteIn_setRx (r : Receiver) (b : Byte) :
    (s.setRx p r).byteIn p b = (s.setRx p (r.take b).1).rxEvent p (r.take b).2 := by
  have h : (s.setRx p r).byteIn p b = ((s.setRx p r).setRx p ((((s.setRx p r).fp.port p).rx).take b).1).rxEvent p
    ((((s.setRx p r).fp.port p).rx).take b).2 := rfl
  rw [h, State.rx_setRx, State.setRx_setRx]

/-- A byte that only moves the receiver on. -/
theorem State.byteIn_quiet {r r' : Receiver} {b : Byte} (h : r.take b = (r', .quiet)) :
    (s.setRx p r).byteIn p b = s.setRx p r' := by
  rw [State.byteIn_setRx, h]
  rfl

@[simp] theorem State.bytesIn_nil : s.bytesIn p [] = s := rfl

theorem State.bytesIn_cons (b : Byte) (l : List Byte) : s.bytesIn p (b :: l) = (s.byteIn p b).bytesIn p l := rfl

theorem State.bytesIn_append (l l' : List Byte) : s.bytesIn p (l ++ l') = (s.bytesIn p l).bytesIn p l' :=
  List.foldl_append ..

/-- The start byte and the header up to KIND. -/
theorem State.bytesIn_header (dst src kind : Byte) (l : List Byte) :
    (s.setRx p .hunt).bytesIn p (Config.startByte :: dst :: src :: kind :: l) =
      (s.setRx p (.headerLen dst src kind)).bytesIn p l := by
  rw [State.bytesIn_cons, State.byteIn_quiet s p (r' := .headerDst) rfl, State.bytesIn_cons,
    State.byteIn_quiet s p (r' := .headerSrc dst) rfl, State.bytesIn_cons,
    State.byteIn_quiet s p (r' := .headerKind dst src) rfl, State.bytesIn_cons,
    State.byteIn_quiet s p (r' := .headerLen dst src kind) rfl]

/-- The payload is gathered byte by byte. -/
theorem State.bytesIn_payload (dst src kind : Byte) : ∀ (b : Byte) (l got : List Byte),
    (s.setRx p (.payload dst src kind (l.length + 1) got)).bytesIn p (b :: l) =
      s.setRx p (.checkHigh dst src kind (got ++ b :: l))
  | b, [], got => State.byteIn_quiet s p rfl
  | b, c :: l, got => by
    have hbyte : Receiver.take (.payload dst src kind ((c :: l).length + 1) got) b =
        (.payload dst src kind (l.length + 1) (got ++ [b]), .quiet) := by
      rw [Receiver.take, if_neg (by rw [List.length_cons]; omega)]
      rfl
    rw [State.bytesIn_cons, State.byteIn_quiet s p hbyte, State.bytesIn_payload dst src kind c l, List.append_assoc]
    rfl

theorem lenByte_toNat {payload : List Byte} (h : payload.length ≤ 40) : (lenByte payload).toNat = payload.length := by
  rw [lenByte, BitVec.toNat_ofNat]
  omega

/-- A whole frame's bytes up to the payload's end lead to CHECK (R3). -/
theorem State.bytesIn_covered {payload : List Byte} (h : payload.length ≤ 40) (dst src kind : Byte) :
    (s.setRx p .hunt).bytesIn p (Config.startByte :: coveredBytes dst src kind payload) =
      s.setRx p (.checkHigh dst src kind payload) := by
  rw [coveredBytes, State.bytesIn_header, State.bytesIn_cons]
  cases payload with
  | nil => exact State.byteIn_quiet s p rfl
  | cons b l =>
    have hlen : Receiver.take (.headerLen dst src kind) (lenByte (b :: l)) =
        (.payload dst src kind (l.length + 1) [], .quiet) := by
      rw [Receiver.take, Receiver.afterLen, lenByte_toNat h, if_neg (List.length_eq_zero_iff.not.2 (List.cons_ne_nil b l))]
      exact if_pos h
    rw [State.byteIn_quiet s p hlen, State.bytesIn_payload]
    rfl

variable {s p}

/-- The frame's CRC is judged, and the receiver is in HUNT again (R4). -/
theorem State.bytesIn_checked (hunt : (s.fp.port p).rx = .hunt) {payload : List Byte} (h : payload.length ≤ 40)
    (dst src kind high low : Byte) :
    s.bytesIn p (Config.startByte :: coveredBytes dst src kind payload ++ [high, low]) =
      s.rxEvent p (judgeFrame dst src kind payload high low) := by
  have hin := State.bytesIn_covered s p h dst src kind
  rw [State.setRx_self hunt] at hin
  rw [State.bytesIn_append, hin, State.bytesIn_cons, State.byteIn_quiet s p (r' := .checkLow dst src kind payload high) rfl,
    State.bytesIn_cons, State.byteIn_setRx, State.bytesIn_nil, Receiver.take, State.setRx_self hunt]

theorem judgeFrame_crc (dst src kind : Byte) (payload : List Byte) :
    ∃ high low, beBytes 2 (crcOf (coveredBytes dst src kind payload)).toNat = [high, low] ∧
      judgeFrame dst src kind payload high low = .complete (mkFrame dst src kind payload) := by
  unfold judgeFrame
  generalize crcOf (coveredBytes dst src kind payload) = crc
  exact ⟨_, _, rfl, if_pos (beNat_beBytes (k := 2) crc.isLt)⟩

section
variable (dst src kind : Byte) (payload : List Byte)
@[simp] theorem mkFrame_dst : (mkFrame dst src kind payload).dst = dst := rfl
@[simp] theorem mkFrame_src : (mkFrame dst src kind payload).src = src := rfl
@[simp] theorem mkFrame_kind : (mkFrame dst src kind payload).kind = kind := rfl
@[simp] theorem mkFrame_payload : (mkFrame dst src kind payload).payload = payload := rfl
@[simp] theorem mkFrame_crc :
    (mkFrame dst src kind payload).crc = crcOf (coveredBytes dst src kind payload) := by simp only [mkFrame]
end

/-- A frame put on the line is received as that very frame (R2 to R4). -/
theorem State.frameIn_eq (hunt : (s.fp.port p).rx = .hunt) {payload : List Byte} (h : payload.length ≤ 40)
    (dst src kind : Byte) :
    s.frameIn p (mkFrame dst src kind payload) = s.received p (mkFrame dst src kind payload) := by
  obtain ⟨high, low, hcrc, hjudge⟩ := judgeFrame_crc dst src kind payload
  have hwire : wireBytes (mkFrame dst src kind payload) =
      Config.startByte :: coveredBytes dst src kind payload ++ [high, low] := by
    rw [← hcrc, wireBytes, mkFrame_crc]
    rfl
  rw [State.frameIn, hwire, State.bytesIn_checked hunt h, hjudge]
  rfl

end

/-- Settles O5: the receiver gathers header, payload and CRC in turn. -/
theorem frameReadBackByReceiver : Obligations.FrameReadBackByReceiver :=
  fun _ _ dst src kind _ hunt h => State.frameIn_eq hunt h dst src kind

/-! ## Trunk frames (R5, R6, R8) -/

/-- A frame bound for the chain: the tail of the chain-forward queue, or dropped and counted. -/
theorem State.forwardDown_iff (s : State) (f : Frame) :
    (s.fp.chain.forwardQ.length < 16 → s.forwardDown f = s.modPort .chain (·.pushForward f)) ∧
    (16 ≤ s.fp.chain.forwardQ.length →
      s.forwardDown f = { s with fp := { s.fp with downDrops := min (s.fp.downDrops + 1) 65535 } }) :=
  ⟨fun h => if_pos h, fun h => if_neg h.not_gt⟩

theorem State.forwardUp_iff (s : State) (f : Frame) :
    (s.fp.trunk.forwardQ.length < 16 → s.forwardUp f = s.modPort .trunk (·.pushForward f)) ∧
    (16 ≤ s.fp.trunk.forwardQ.length →
      s.forwardUp f = { s with fp := { s.fp with upDrops := min (s.fp.upDrops + 1) 65535 } }) :=
  ⟨fun h => if_pos h, fun h => if_neg h.not_gt⟩

/-- A REJECT or NOTICE: the tail of the trunk-local queue, or dropped and counted (R12). -/
theorem State.offerUp_iff (s : State) (f : Frame) :
    (s.fp.trunk.localQ.length < 8 → s.mgmt.mu = .idle → s.offerUp f = s.modPort .trunk (·.pushLocal f)) ∧
    (8 ≤ s.fp.trunk.localQ.length ∨ s.mgmt.mu ≠ .idle →
      s.offerUp f = { s with fp := { s.fp with upDrops := min (s.fp.upDrops + 1) 65535 } }) := by
  have hroom : s.noticeRoom = true ↔ s.fp.trunk.localQ.length < 8 ∧ s.mgmt.mu = .idle := by
    rw [State.noticeRoom, Bool.and_eq_true, decide_eq_true_iff, State.trunkLocalRoom, decide_eq_true_iff]
    rfl
  refine ⟨fun h idle => if_pos (hroom.2 ⟨h, idle⟩), fun h => if_neg fun room => ?_⟩
  obtain ⟨hlt, hidle⟩ := hroom.1 room
  exact h.elim (fun hle => absurd hlt hle.not_gt) fun hne => hne hidle

/-- A trunk frame for another node, or for a field address that is free for it. -/
theorem State.trunkReceived_forward {s : State} {f : Frame} (valid : isInvalidDst f.dst = false) (foreign : f.dst ≠ s.own)
    (free : isFieldAddr f.dst = true → isCommandKind f.kind = true → s.holderOf f.dst = none) :
    s.trunkReceived f = s.forwardDown f := by
  unfold State.trunkReceived
  rw [if_neg (by rw [valid]; exact Bool.false_ne_true), if_neg foreign]
  split
  · rename_i hcmd
    obtain ⟨hfield, hkind⟩ := Bool.and_eq_true_iff.1 hcmd
    rw [free hfield hkind]
  · rfl

/-- Settles O7. -/
theorem trunkFrameForwardedDown : Obligations.TrunkFrameForwardedDown := by
  intro s dst src kind payload hunt hlen valid foreign free
  have h : exec (.trunkFrameForward dst src kind payload) s = .next (s.forwardDown (mkFrame dst src kind payload)) :=
    congrArg Host.Outcome.next ((State.frameIn_eq (p := .trunk) hunt hlen dst src kind).trans (State.trunkReceived_forward valid foreign free))
  obtain ⟨hroom, hfull⟩ := s.forwardDown_iff (mkFrame dst src kind payload)
  exact ⟨fun hlt => by rw [h, hroom hlt], fun hle => by rw [h, hfull hle]⟩

/-- The own address is neither an invalid destination nor a field address (R5). -/
theorem State.own_valid (s : State) : isInvalidDst s.own = false ∧ isFieldAddr s.own = false := by
  have : ∀ n : BitVec 3, isInvalidDst (0xF0 + n.setWidth 8) = false ∧ isFieldAddr (0xF0 + n.setWidth 8) = false := by decide
  exact this s.node

/-- Settles O8. -/
theorem managementRequestQueued : Obligations.ManagementRequestQueued := by
  intro s src payload hunt hlen
  have hreceived : s.trunkReceived (mkFrame s.own src kindMgmtRequest payload) = s.queueRequest ⟨src, payload⟩ := by
    unfold State.trunkReceived
    simp only [mkFrame_dst, mkFrame_src, mkFrame_kind, mkFrame_payload]
    rw [if_neg (by simp [s.own_valid.1]), if_pos trivial, if_pos trivial]
  have h : exec (.mgmtRequest src payload) s = .next (s.queueRequest ⟨src, payload⟩) :=
    congrArg Host.Outcome.next ((State.frameIn_eq (p := .trunk) hunt hlen _ _ _).trans hreceived)
  exact ⟨fun hlt => h.trans (congrArg Host.Outcome.next (if_pos hlt)),
    fun hle => h.trans (congrArg Host.Outcome.next (if_neg hle.not_gt))⟩

/-- A field address is a valid destination and no node's own address. -/
theorem valid_of_isFieldAddr {a : Byte} (h : isFieldAddr a = true) (s : State) : isInvalidDst a = false ∧ a ≠ s.own := by
  refine ⟨?_, fun e => ?_⟩
  · rw [Bool.eq_false_iff]
    intro hinvalid
    simp only [isFieldAddr, isInvalidDst, Bool.and_eq_true, decide_eq_true_iff] at h hinvalid
    omega
  · rw [e, s.own_valid.2] at h
    cases h

/-- Settles O9. -/
theorem heldCommandRefused : Obligations.HeldCommandRefused := by
  intro s dst src kind payload h hunt hlen field command held
  have hreceived : s.trunkReceived (mkFrame dst src kind payload) =
      s.offerUp (rejectFrame s.own (mkFrame dst src kind payload) h) := by
    obtain ⟨valid, foreign⟩ := valid_of_isFieldAddr field s
    unfold State.trunkReceived
    simp only [mkFrame_dst, mkFrame_kind, valid, foreign, field, command, held, Bool.and_self, Bool.false_eq_true,
      if_true, if_false]
  have hexec : exec (.heldAddressRefusal dst src kind payload) s = .next _ :=
    congrArg Host.Outcome.next ((State.frameIn_eq (p := .trunk) hunt hlen _ _ _).trans hreceived)
  obtain ⟨hroom, hfull⟩ := s.offerUp_iff (rejectFrame s.own (mkFrame dst src kind payload) h)
  exact ⟨fun hlt idle => by rw [hexec, hroom hlt idle]; rfl, fun hle => by rw [hexec, hfull hle]⟩

/-! ## Chain frames (R5, R7) -/

/-- A frame that Intake takes in is of its source's role and well formed. -/
theorem State.takesIn_eq_none {s : State} {f : Frame}
    (h : s.mapped f.src = none ∨
      ∃ e, s.mapped f.src = some e ∧ (roleKind e.role ≠ some f.kind ∨ parseReport f.kind f.payload = none)) :
    s.takesIn f = none := by
  unfold State.takesIn
  obtain h | ⟨e, he, h | h⟩ := h
  · rw [h]
  · simp only [he, if_neg h]
  · simp only [he, h, Option.map_none, ite_self]

/-- A chain frame that is not taken in. -/
theorem State.chainReceived_notTakenIn {s : State} {f : Frame} (valid : isInvalidDst f.dst = false)
    (field : isNodeAddr f.src = false) (out : s.takesIn f = none) : s.chainReceived f = s.notTakenIn f := by
  unfold State.chainReceived
  rw [valid, field, if_neg Bool.false_ne_true, if_neg Bool.false_ne_true, out]

/-- Settles O10. -/
theorem chainFrameForwardedUp : Obligations.ChainFrameForwardedUp := by
  intro s dst src kind payload hunt hlen valid f counted
  have hexec : exec (.chainFrameForward dst src kind payload) s = .next (s.chainReceived f) :=
    congrArg Host.Outcome.next (State.frameIn_eq (p := .chain) hunt hlen _ _ _)
  rw [hexec]
  have hnode : isNodeAddr src = true → s.chainReceived f = s.forwardUp f := by
    intro node
    unfold State.chainReceived
    simp only [f, mkFrame_dst, mkFrame_src]
    rw [if_neg (by simp [valid]), if_pos node]
  obtain ⟨hroom, hfull⟩ := s.forwardUp_iff f
  obtain ⟨hroom', hfull'⟩ := counted.forwardUp_iff f
  refine ⟨fun node hlt => by rw [hnode node, hroom hlt], fun node hle => by rw [hnode node, hfull hle],
    fun field hpass => ?_, fun field habsorb => ?_⟩
  · have hout : s.takesIn f = none := State.takesIn_eq_none (hpass.imp id fun ⟨e, he, _, h⟩ => ⟨e, he, h⟩)
    have hup : s.notTakenIn f = counted.forwardUp f := by
      unfold State.notTakenIn
      obtain h | ⟨e, he, hpass, -⟩ := hpass
      · simp only [f, mkFrame_src, h]; rfl
      · simp only [f, mkFrame_src, he, hpass, if_true]; rfl
    rw [State.chainReceived_notTakenIn valid field hout, hup]
    exact ⟨fun hlt => by rw [hroom' hlt], fun hle => by rw [hfull' hle]⟩
  · obtain ⟨e, he, hpass, h⟩ := habsorb
    rw [State.chainReceived_notTakenIn valid field (State.takesIn_eq_none (.inr ⟨e, he, h⟩))]
    unfold State.notTakenIn
    simp only [f, mkFrame_src, he, hpass, Bool.false_eq_true, if_false]
    rfl

/-! ## Bad frames and bytes in error (R3, R4, R15) -/

/-- A frame for an invalid destination is counted at either port. -/
theorem State.received_invalid (s : State) (p : Port) {f : Frame} (h : isInvalidDst f.dst = true) :
    s.received p f = s.countBad p := by
  cases p <;> exact if_pos h

/-- Settles O11. -/
theorem badFrameCounted : Obligations.BadFrameCounted := by
  intro s p dst src kind hunt counted
  refine ⟨fun len hlen => ?_, fun payload high low hlen hcrc => ?_, fun payload hlen invalid => ?_,
    fun payload hlen trunk own hkind => ?_⟩
  · have hafter : Receiver.take (.headerLen dst src kind) len = (.hunt, .dropped) := by
      rw [Receiver.take, Receiver.afterLen, if_neg (by omega)]
      exact if_neg hlen.not_ge
    have hin := State.bytesIn_header s p dst src kind [len]
    rw [State.bytesIn_cons (s.setRx p (.headerLen dst src kind)), State.byteIn_setRx, hafter, State.setRx_self hunt] at hin
    exact congrArg Host.Outcome.next hin
  · have hjudge : judgeFrame dst src kind payload high low = .dropped :=
      if_neg (by simpa [beNat] using hcrc)
    exact congrArg Host.Outcome.next ((State.bytesIn_checked hunt hlen dst src kind high low).trans (by rw [hjudge]; rfl))
  · exact congrArg Host.Outcome.next ((State.frameIn_eq hunt hlen dst src kind).trans (s.received_invalid p invalid))
  · subst trunk own
    have hreceived : s.trunkReceived (mkFrame s.own src kind payload) = s.countBad .trunk := by
      unfold State.trunkReceived
      simp only [mkFrame_dst, mkFrame_kind]
      rw [if_neg (by simp [s.own_valid.1]), if_pos trivial]
      exact if_neg hkind
    exact congrArg Host.Outcome.next ((State.frameIn_eq (p := .trunk) hunt hlen _ _ _).trans hreceived)

/-- Settles O12. -/
theorem lineErrorDropsPartFrame : Obligations.LineErrorDropsPartFrame := by
  intro s p bytes r
  have herror : r.errorIn p = (r.setRx p .hunt).rxEvent p ((r.fp.port p).rx.lineError) := rfl
  refine ⟨fun hunt => ?_, fun hne => ?_⟩
  · refine congrArg Host.Outcome.next (herror.trans ?_)
    rw [State.setRx_self hunt, hunt]
    rfl
  · have hdropped : (r.fp.port p).rx.lineError = .dropped := by
      cases h : (r.fp.port p).rx with
      | hunt => exact absurd h hne
      | _ => rfl
    refine congrArg Host.Outcome.next (herror.trans ?_)
    rw [hdropped]
    exact r.modPort_modPort p (fun q => { q with rx := .hunt }) fun q => { q with badFrames := satInc q.badFrames }

/-! ## The arbiter (R10, R13) -/

/-- The transmitter is IDLE with nothing to send. -/
theorem PortState.arbitrate_empty {q : PortState} (idle : q.sending = none) (hl : q.localQ = []) (hf : q.forwardQ = []) :
    q.arbitrate = q := by
  unfold PortState.arbitrate
  rw [idle, hl, hf]

/-- The local queue is served when it alone holds a frame, or when the forward queue was served last. -/
theorem PortState.arbitrate_local {q : PortState} (idle : q.sending = none) {f : Frame} {l : List Frame}
    (hl : q.localQ = f :: l) (h : q.forwardQ = [] ∨ q.mark = .forwardServed) : q.arbitrate = q.startLocal f l := by
  unfold PortState.arbitrate
  rw [idle, hl]
  cases hf : q.forwardQ with
  | nil => rfl
  | cons g r =>
    have hmark : q.mark = .forwardServed := h.resolve_left (by rw [hf]; exact List.cons_ne_nil g r)
    simp only [hmark]

/-- The forward queue is served when it alone holds a frame, or when the local queue was served last. -/
theorem PortState.arbitrate_forward {q : PortState} (idle : q.sending = none) {g : Frame} {r : List Frame}
    (hf : q.forwardQ = g :: r) (h : q.localQ = [] ∨ q.mark = .localServed) : q.arbitrate = q.startForward g r := by
  unfold PortState.arbitrate
  rw [idle, hf]
  cases hl : q.localQ with
  | nil => rfl
  | cons f l =>
    have hmark : q.mark = .localServed := h.resolve_left (by rw [hl]; exact List.cons_ne_nil f l)
    simp only [hmark]

/-- Settles O13. -/
theorem arbiterChoosesFrame : Obligations.ArbiterChoosesFrame := by
  refine ⟨fun s p idle => ?_, fun s p sent sending => ?_, fun q f => ⟨fun idle hl hf => ?_, fun g sending => ?_⟩⟩
  · have h : s.transmissionEnded p = s := by unfold State.transmissionEnded; rw [idle]
    exact congrArg Host.Outcome.next h
  · intro q after
    have hexec : exec (.transmissionEnd p) s = .next { s with fp := s.fp.setPort p q.endTransmission } := by
      have h : s.transmissionEnded p = s.modPort p PortState.endTransmission := by
        unfold State.transmissionEnded
        rw [sending]
      exact congrArg Host.Outcome.next h
    refine ⟨fun hl hf => ?_, fun f l hl h => ?_, fun g r hf h => ?_⟩ <;> refine hexec.trans ?_ <;>
      unfold PortState.endTransmission
    · rw [PortState.arbitrate_empty (q := { q with sending := none }) rfl hl hf]
    · rw [PortState.arbitrate_local (q := { q with sending := none }) rfl hl h]; rfl
    · rw [PortState.arbitrate_forward (q := { q with sending := none }) rfl hf h]; rfl
  · refine ⟨?_, ?_⟩
    · refine (PortState.arbitrate_local (q := { q with localQ := q.localQ ++ [f] }) idle (f := f) (l := []) ?_ (.inl hf)).trans ?_
      · exact congrArg (· ++ [f]) hl
      · rw [PortState.startLocal, hl]
    · refine (PortState.arbitrate_forward (q := { q with forwardQ := q.forwardQ ++ [f] }) idle (g := f) (r := []) ?_ (.inl hl)).trans ?_
      · exact congrArg (· ++ [f]) hf
      · rw [PortState.startForward, hf]
  · exact ⟨PortState.arbitrate_sending _ g sending, PortState.arbitrate_sending _ g sending⟩

end Sys2Proof.Machine
end

section
/-! PROOF. The clock and the moments of a string (O2, O38), the answers of MU to the plain requests (O15, O24, O25, O28, O30, O34,
O35), and how MU takes a request whose answer may trigger an evaluation. -/

namespace Sys2Proof.Machine

open Sys2Proof

/-! ## The end of an action (R75) -/

/-- A trigger in an action that has no other brings one evaluation of the state it leaves. -/
theorem State.settle_trigger {s : State} (h : s.evalDue = false) : s.trigger.settle = s.evaluate := by
  have hclear : { s.trigger with evalDue := false } = s := by
    unfold State.trigger
    rw [← h]
  rw [State.settle_due _ rfl, hclear]

/-- MU takes the request at the head of its queue: the answer, the evaluation it triggers, and the reply (R175). -/
theorem AtHead.answered {s t : State} {src : Byte} {p : List Byte} {rest : List Request} {k : RequestKind}
    {answer : State → List Byte → Answer} {r : Reply} (hs : AtHead s src p rest) (hkind : requestKind p = k)
    (hanswer : answer (s.withInput rest) p.tail = (r, t)) :
    s.takeRequest k answer = t.settle.sendReply src (requestCode p) r := by
  rw [s.takeRequest_head k answer _ rest hs.idle hs.head hkind]
  have h : s.answerHead ⟨src, p⟩ rest answer = (answer (s.withInput rest) p.tail).2.settle.sendReply src (requestCode p)
      (answer (s.withInput rest) p.tail).1 := rfl
  rw [h, hanswer]

/-- A request that is refused leaves the queue, and nothing else happens (R176). -/
theorem AtHead.refused {s : State} {src : Byte} {p : List Byte} {rest : List Request} {k : RequestKind}
    {answer : State → List Byte → Answer} {c : ReplyCode} (hs : AtHead s src p rest) (hkind : requestKind p = k)
    (hanswer : answer (s.withInput rest) p.tail = (s.withInput rest).refuse c) :
    s.takeRequest k answer = (s.withInput rest).sendReply src (requestCode p) { code := c } :=
  hs.takeRequest_eq hkind hanswer rfl

/-- A request whose effect `v` triggers one evaluation. -/
theorem AtHead.triggered {s v : State} {src : Byte} {p : List Byte} {rest : List Request} {k : RequestKind}
    {answer : State → List Byte → Answer} {r : Reply} (hs : AtHead s src p rest) (hkind : requestKind p = k)
    (hanswer : answer (s.withInput rest) p.tail = (r, v.trigger)) (hquiet : v.evalDue = s.evalDue) :
    s.takeRequest k answer = v.evaluate.sendReply src (requestCode p) r := by
  rw [hs.answered hkind hanswer, State.settle_trigger (hquiet.trans hs.settled)]

@[simp] theorem State.withInput_str (s : State) (l : List Request) (i : StringNo) : (s.withInput l).str i = s.str i := rfl
@[simp] theorem State.withInput_bay (s : State) (l : List Request) (b : BayNo) : (s.withInput l).bay b = s.bay b := rfl
@[simp] theorem State.withInput_cell (s : State) (l : List Request) (i : StringNo) (p : Position) :
    (s.withInput l).cell i p = s.cell i p := rfl
@[simp] theorem State.withInput_gas (s : State) (l : List Request) : (s.withInput l).gas = s.gas := rfl
@[simp] theorem State.withInput_site (s : State) (l : List Request) : (s.withInput l).site = s.site := rfl
@[simp] theorem State.withInput_fp (s : State) (l : List Request) : (s.withInput l).fp = s.fp := rfl
@[simp] theorem State.withInput_water (s : State) (l : List Request) : (s.withInput l).water = s.water := rfl
@[simp] theorem State.withInput_holds (s : State) (l : List Request) : (s.withInput l).holds = s.holds := rfl
@[simp] theorem State.withInput_results (s : State) (l : List Request) : (s.withInput l).mgmt.results = s.mgmt.results := rfl

/-! ## Updates of one record -/

theorem tset_tset {α : Type} {n : Nat} (v : Vector α n) (i : Fin n) (x y : α) : tset (tset v i x) i y = tset v i y := by
  unfold tset
  exact Vector.set_set ..

theorem tset_get {α : Type} {n : Nat} (v : Vector α n) (i : Fin n) : tset v i v[i] = v := by
  unfold tset
  exact Vector.set_getElem_self ..

/-- Two updates of one string are one. -/
theorem State.modStr_modStr (s : State) (i : StringNo) (f g : StringRec → StringRec) :
    (s.modStr i f).modStr i g = s.modStr i fun r => g (f r) := by
  have h : (s.modStr i f).modStr i g = (s.modStr i f).setStr i (g ((s.modStr i f).str i)) := rfl
  rw [h, s.str_modStr]
  unfold State.modStr State.setStr
  simp only [tset_tset]

theorem State.modBay_modBay (s : State) (b : BayNo) (f g : Bay → Bay) :
    (s.modBay b f).modBay b g = s.modBay b fun r => g (f r) := by
  have h : (s.modBay b f).modBay b g = (s.modBay b f).setBay b (g ((s.modBay b f).bay b)) := rfl
  rw [h, s.bay_modBay]
  unfold State.modBay State.setBay
  simp only [tset_tset]

/-! ## The clock (R24, R85, R178) -/

/-- A running timer loses one, and a stopped or a paused one keeps what it has. -/
theorem Timer.tick_cases (t : Timer) :
    (∀ n, t = .running (n + 1) → t.tick = .running n) ∧ (t = .stopped → t.tick = .stopped) ∧
      (∀ n, t = .paused n → t.tick = .paused n) := by
  refine ⟨fun n h => ?_, fun h => ?_, fun n h => ?_⟩ <;> rw [h] <;> rfl

/-- The timers of a bay lose one together. -/
theorem Bay.tick_timer (r : Bay) : ∀ timer ∈ [Bay.confirm, Bay.sample, Bay.window, Bay.duration, Bay.hold],
    timer r.tick = (timer r).tick := by
  intro timer h
  simp only [List.mem_cons, List.not_mem_nil, or_false] at h
  obtain rfl | rfl | rfl | rfl | rfl := h <;> rfl

theorem Clock.tick_hourDue (c : Clock) :
    c.tick.hourDue = true ↔ c.hourDue = true ∨ (c.second + 1) % 3600 = 0 := by
  unfold Clock.tick
  rw [Bool.or_eq_true, decide_eq_true_iff]
  rfl

/-- Settles O2. -/
theorem secondStepsRunningTimers : Obligations.SecondStepsRunningTimers := by
  intro s
  refine ⟨fun hempty => ⟨fun c hc => ?_, fun hnone => ?_⟩, fun hlt => ?_, fun hmax => ?_⟩
  · unfold step; rw [hempty]; simp only [hc]
  · unfold step; rw [hempty]; simp only [hnone]
  · obtain ⟨hstr, hbay⟩ := State.tick_eq hlt
    have heq : s.tick = { s with
        clock := s.clock.tick, silenceTimeout := s.site.sampleTimeout, strings := s.tick.strings, bays := s.tick.bays,
        gas := s.gas.tick,
        water := { s.water with round := { s.water.round with fillTimer := s.water.round.fillTimer.tick } } } := by
      have hrun : s.clock.second < Config.maxSecond := hlt
      unfold State.tick
      rw [if_pos hrun]
    have htick : ∀ {t : Timer} {n : Nat}, t = .running (n + 1) → t.tick = .running n :=
      fun {t n} h => t.tick_cases.1 n h
    refine ⟨by rw [heq]; rfl, by rw [heq]; exact s.clock.tick_hourDue, fun b timer htimer => ?_,
      fun i n h => ?_, fun i l n h => ?_, fun n h => ?_, fun n h => ?_, fun n h => ?_, by rw [heq], by rw [heq], by rw [heq],
      by rw [heq], by rw [heq]⟩
    · rw [hbay b, Bay.tick_timer _ timer htimer]
      exact Timer.tick_cases _
    · rw [hstr i]; exact htick h
    · rw [hstr i]
      have : (s.str i).tick.sweep = (s.str i).sweep.tick := rfl
      rw [this, h]
      rfl
    · rw [heq]; exact htick h
    · rw [heq]; exact htick h
    · rw [heq]; exact htick h
  · unfold State.tick
    exact if_neg fun h => absurd hmax (Nat.ne_of_lt h)

/-! ## The moments of a string (R39, R81, R106) -/

theorem State.post_evalDue (s : State) (r : Result) : (s.post r).evalDue = s.evalDue := (Quiet.post s r).due

theorem Timer.due_iff (t : Timer) : t.due = true ↔ t = .running 0 := decide_eq_true_iff

theorem State.settleDue_iff (s : State) (i : StringNo) :
    s.settleDue i = true ↔ (s.str i).state = .settling ∧ (s.str i).settle = .running 0 := by
  unfold State.settleDue
  rw [Bool.and_eq_true, decide_eq_true_iff, Timer.due_iff]

theorem State.censusDue_iff {s : State} {i : StringNo} {c : Nat} (fitted : (s.str i).cfg.cellCount ≠ 0)
    (unknown : (s.str i).presence = .unknown) (start : (s.str i).censusStart = some c) :
    s.censusDue i = true ↔ c + 60 ≤ s.second := by
  unfold State.censusDue State.fitted
  simp only [bne_iff_ne, ne_eq, fitted, not_false_eq_true, unknown, start, decide_true, Bool.and_true, Bool.and_eq_true, decide_eq_true_iff, true_and]
  rfl

theorem State.silenceDue_iff {s : State} {i : StringNo} {a : Nat} (fitted : (s.str i).cfg.cellCount ≠ 0)
    (present : (s.str i).presence = .present) (last : (s.str i).lastArrival = some a) :
    s.silenceDue i = true ↔ 4 * s.silenceTimeout < s.second - a := by
  unfold State.silenceDue State.fitted
  simp [fitted, present, last]

/-- The string becomes MISSING, and an evaluation follows. -/
theorem State.setPresence_settle {s : State} (h : s.evalDue = false) (i : StringNo) (p : Presence) :
    (s.setPresence i p).settle = ((s.modStr i fun r => { r with presence := p }).post
      { string := i, cls := .changed, cause := .none, startMinute := s.minute, elapsed := 0, part := .presence p }).evaluate :=
  State.settle_trigger (((s.modStr i _).post_evalDue _).trans h)

/-- Settles O38. -/
theorem stringMomentsArrive : Obligations.StringMomentsArrive := by
  intro s i quiet missing
  have hmissing : (s.setPresence i .missing).settle = missing.evaluate := State.setPresence_settle quiet i .missing
  refine ⟨fun m hm => ⟨fun hle => ?_, fun hlt => ?_⟩, fun hstate htimer => ?_, fun h => ?_,
    fun c fitted unknown start => ?_, fun a fitted present last => ?_⟩
  · have hdue : s.retryDue i = true := by unfold State.retryDue; rw [hm]; exact decide_eq_true hle
    refine congrArg Host.Outcome.next ((if_pos hdue).trans ?_)
    exact State.settle_trigger quiet
  · have hdue : ¬s.retryDue i = true := by unfold State.retryDue; rw [hm]; simpa using hlt
    exact congrArg Host.Outcome.next (if_neg hdue)
  · refine congrArg Host.Outcome.next ((if_pos ((s.settleDue_iff i).2 ⟨hstate, htimer⟩)).trans ?_)
    have hfloat : (s.modStr i fun r => { r with settle := .stopped }).enterFloat i =
        (s.modStr i fun r => { r with settle := .stopped, state := .float }).trigger :=
      congrArg State.trigger (s.modStr_modStr i _ _)
    rw [hfloat]
    exact State.settle_trigger quiet
  · refine congrArg Host.Outcome.next (if_neg fun hdue => ?_)
    obtain ⟨hstate, htimer⟩ := (s.settleDue_iff i).1 hdue
    exact h.elim (· hstate) (· htimer)
  · have hdue := State.censusDue_iff fitted unknown start
    exact ⟨fun hle => congrArg Host.Outcome.next ((if_pos (hdue.2 hle)).trans hmissing),
      fun hlt => congrArg Host.Outcome.next (if_neg fun h => absurd (hdue.1 h) hlt.not_ge)⟩
  · have hdue := State.silenceDue_iff fitted present last
    exact ⟨fun hlt => congrArg Host.Outcome.next ((if_pos (hdue.2 hlt)).trans hmissing),
      fun hle => congrArg Host.Outcome.next (if_neg fun h => absurd (hdue.1 h) hle.not_gt)⟩

/-! ## The reply (R12, R175) -/

theorem State.trunkLocalRoom_iff (s : State) : s.trunkLocalRoom = true ↔ s.fp.trunk.localQ.length < 8 := decide_eq_true_iff

/-- Settles O15. -/
theorem replyTakenOrHeld : Obligations.ReplyTakenOrHeld := by
  refine ⟨fun s src code r => ⟨fun hlt => ?_, fun hle => ?_⟩, fun s reply waiting => ⟨fun hlt => ?_, fun hle => ?_⟩,
    fun s idle => ?_⟩
  · exact if_pos (s.trunkLocalRoom_iff.2 hlt)
  · exact if_neg (s.trunkLocalRoom_iff.not.2 hle.not_gt)
  · show execMgmtReplyTaken s = _
    unfold execMgmtReplyTaken
    rw [waiting]
    exact congrArg Host.Outcome.next (if_pos (s.trunkLocalRoom_iff.2 hlt))
  · show execMgmtReplyTaken s = _
    unfold execMgmtReplyTaken
    rw [waiting]
    exact congrArg Host.Outcome.next (if_neg (s.trunkLocalRoom_iff.not.2 hle.not_gt))
  · show execMgmtReplyTaken s = _
    unfold execMgmtReplyTaken
    rw [idle]

/-! ## Raises (R62, R63, R70) -/

theorem Entry.isFor_iff (e : Entry) (i : StringNo) (k : JobKind) : e.isFor i k = true ↔ e.string = i ∧ e.kind = k := by
  unfold Entry.isFor
  rw [Bool.and_eq_true, decide_eq_true_iff, decide_eq_true_iff]

/-- Settles O25. -/
theorem raiseAddsOrMerges : Obligations.RaiseAddsOrMerges := by
  intro l i k src level now
  have hany : l.any (·.isFor i k) = true ↔ ∃ e ∈ l, e.string = i ∧ e.kind = k := by
    simp only [List.any_eq_true, Entry.isFor_iff]
  refine ⟨fun hnew => ?_, fun hlisted => ?_⟩
  · unfold raiseInto
    refine if_neg fun h => ?_
    obtain ⟨e, he, hpair⟩ := hany.1 h
    exact hnew e he hpair
  · unfold raiseInto
    rw [if_pos (hany.2 hlisted)]
    refine ⟨List.length_map _, fun n e he => ⟨fun hpair => ?_, fun hother => ?_⟩⟩
    · rw [List.getElem?_map, he, Option.map_some, if_pos ((e.isFor_iff i k).2 hpair)]
    · rw [List.getElem?_map, he, Option.map_some, if_neg ((e.isFor_iff i k).not.2 hother)]

@[simp] theorem jobKindArg_one (n k : Byte) (l : List Byte) :
    jobKindArg (n :: k :: l) 1 = if k.toNat = 0 then some .equalise else if k.toNat = 1 then some .watering else none := by
  unfold jobKindArg
  simp

/-- The kind byte of a request names its kind. -/
theorem jobKindArg_eq_some {k : Byte} {kind : JobKind} (h : k = match kind with | .equalise => 0x00 | .watering => 0x01)
    (n : Byte) (l : List Byte) : jobKindArg (n :: k :: l) 1 = some kind := by
  subst h
  cases kind <;> rfl

theorem StringState.inBay_iff (x : StringState) :
    x.inBay = true ↔ x ∈ [StringState.baseline, .transferOut, .equalising, .held, .transferBack] := by
  cases x <;> decide

/-- A JOB_START with a field out of range (R70). -/
theorem State.answerJobStart_badRange (s : State) {n k level : Byte}
    (h : 8 ≤ n.toNat ∨ 1 < k.toNat ∨ level.toNat < 1 ∨ 7 < level.toNat) :
    s.answerJobStart [n, k, level] = s.refuse .badRange := by
  unfold State.answerJobStart
  simp only [natField_cons_succ, natField_zero_one, jobKindArg_one]
  split
  · rename_i i kind hstring hkind
    refine if_pos ?_
    obtain h | h | h := h
    · rw [stringArg_eq_none h] at hstring
      cases hstring
    · rw [if_neg (by omega), if_neg (by omega)] at hkind
      cases hkind
    · exact h
  · rfl

/-- A JOB_START in range: R70's rows in order. -/
theorem State.answerJobStart_eq (s : State) {n k level : Byte} {i : StringNo} {kind : JobKind}
    (hn : stringArg [n, k, level] = some i) (hk : jobKindArg [n, k, level] 1 = some kind)
    (hlevel : ¬(level.toNat < 1 ∨ 7 < level.toNat)) :
    s.answerJobStart [n, k, level] =
      if (s.str i).state = .absent then s.refuse .badState
      else if kind = .equalise ∧ (s.str i).state.inBay then s.refuse .badState
      else if kind = .watering ∧ (s.str i).state = .watering then s.refuse .badState
      else ({ code := .ok }, s.raise i kind .management level.toNat) := by
  unfold State.answerJobStart
  simp only [natField_cons_succ, natField_zero_one, hn, hk, if_neg hlevel]

/-- Settles O24: the rows of R70's table, in order. -/
theorem jobStartRaises : Obligations.JobStartRaises := by
  intro s src n k level rest hs u
  refine ⟨fun hrange => ?_, fun i kind hn hk hlow hhigh => ?_⟩
  · exact congrArg Host.Outcome.next (hs.refused rfl (u.answerJobStart_badRange hrange))
  · intro refused
    have hanswer := u.answerJobStart_eq (stringArg_eq_some hn [k, level]) (jobKindArg_eq_some hk n [level]) (by omega)
    have hstr : u.str i = s.str i := rfl
    simp only [hstr, StringState.inBay_iff] at hanswer
    refine ⟨fun h => congrArg Host.Outcome.next (hs.refused rfl (hanswer.trans ?_)),
      fun h => congrArg Host.Outcome.next (hs.triggered (v := { u with
        requests := raiseInto s.requests i kind .management level.toNat s.second }) rfl (hanswer.trans ?_) rfl)⟩
    · obtain habsent | hbay | hwater := h
      · exact if_pos habsent
      · exact ite_eq_left_iff.2 fun _ => if_pos hbay
      · exact ite_eq_left_iff.2 fun _ => ite_eq_left_iff.2 fun _ => if_pos hwater
    · obtain ⟨habsent, hbay, hwater⟩ : _ ∧ _ ∧ _ := by simpa only [refused, not_or] using h
      rw [if_neg habsent, if_neg hbay, if_neg hwater]
      rfl

/-! ## Results (R163 to R167) -/

theorem State.post_mgmt (s : State) (r : Result) :
    (s.post r).mgmt = { s.mgmt with results := queueResult s.mgmt.results r } := by
  rw [State.post_eq]

/-- The NOTICE of a posting carries the new count (R167). -/
theorem State.post_offerUp (s : State) (r : Result) :
    s.post r = { s with mgmt := { s.mgmt with results := queueResult s.mgmt.results r } }.offerUp
      (noticeFrame s.own (queueResult s.mgmt.results r).length) := rfl

theorem noticeFrame_eq (own : Byte) (n : Nat) : noticeFrame own n = mkFrame 0x00 own 0x33 [BitVec.ofNat 8 n] := by
  simp [noticeFrame, beBytes, kindNotice]

theorem queueResult_room {l : List Result} (h : l.length < 16) (r : Result) : queueResult l r = l ++ [r] := if_pos h

theorem queueResult_full {x y : Result} {l : List Result} (h : 16 ≤ (x :: y :: l).length) (r : Result) :
    queueResult (x :: y :: l) r = { y with gap := true } :: l ++ [r] := if_neg h.not_gt

/-- A posted record is the last of the queue. -/
@[simp] theorem queueResult_getLast? (l : List Result) (r : Result) : (queueResult l r).getLast? = some r := by
  unfold queueResult
  split <;> simp

theorem State.post_last (s : State) (r : Result) : (s.post r).mgmt.results.getLast? = some r := by
  rw [State.post_mgmt]
  exact queueResult_getLast? _ r

/-- Settles O28. -/
theorem resultsPostedAndFetched : Obligations.ResultsPostedAndFetched := by
  refine ⟨fun s r => ⟨fun hlt => ?_, fun x y l hl hfull => ?_, fun hlt idle => ?_, fun h => ?_, ?_⟩,
    fun s src rest hs => ⟨fun hempty => ?_, fun r l hl => ?_⟩⟩
  · rw [State.post_mgmt, queueResult_room hlt]
  · rw [State.post_mgmt, hl, queueResult_full (hl ▸ hfull)]
  · have h := (State.offerUp_iff { s with mgmt := { s.mgmt with results := queueResult s.mgmt.results r } }
      (noticeFrame s.own (queueResult s.mgmt.results r).length)).1 hlt idle
    rw [State.post_mgmt, ← noticeFrame_eq, State.post_offerUp, h]
    rfl
  · exact congrArg State.fp ((State.offerUp_iff { s with mgmt := { s.mgmt with results := queueResult s.mgmt.results r } }
      (noticeFrame s.own (queueResult s.mgmt.results r).length)).2 h)
  · rw [State.post_eq]
    exact ⟨rfl, rfl, rfl, rfl, rfl, rfl⟩
  · refine congrArg Host.Outcome.next (hs.refused rfl ?_)
    show State.answerFetch _ _ = _
    unfold State.answerFetch
    rw [State.withInput_results, hempty]
  · refine congrArg Host.Outcome.next (hs.takeRequest_eq (t := { s with mgmt := { s.mgmt with input := rest, results := l } })
      rfl ?_ rfl)
    show State.answerFetch _ _ = _
    unfold State.answerFetch
    rw [State.withInput_results, hl]
    rfl

/-! ## STATUS (R183) -/

theorem State.statusBytes_length (s : State) : s.statusBytes.length = 32 := by
  simp [State.statusBytes, allStrings, List.finRange]

theorem State.answerStatus_eq (s : State) (flag : Byte) :
    s.answerStatus [flag] = if 1 < flag.toNat then s.refuse .badRange
      else ({ code := .ok, data := s.statusBytes }, if flag.toNat = 1 then { s with fp := s.fp.clearCounters } else s) := by
  unfold State.answerStatus
  simp only [natField_zero_one]

/-- Settles O34. -/
theorem statusReportsAndClears : Obligations.StatusReportsAndClears := by
  intro s src flag rest hs u reply
  have hanswer := u.answerStatus_eq flag
  refine ⟨fun hrange => ?_, fun hzero => ?_, fun hone => ?_, s.statusBytes_length, ?_⟩
  · exact congrArg Host.Outcome.next (hs.refused rfl (hanswer.trans (if_pos hrange)))
  · subst hzero
    exact congrArg Host.Outcome.next (hs.takeRequest_eq (t := u) rfl hanswer rfl)
  · subst hone
    exact congrArg Host.Outcome.next (hs.takeRequest_eq (t := { u with fp := u.fp.clearCounters }) rfl hanswer rfl)
  · by_cases hfan : s.gas.fan = .off <;> simp [State.statusBytes, beBytes, flagByte, hfan]

/-! ## The form check (R18) -/

theorem AtHead.exec_unknown {s : State} {src : Byte} {p : List Byte} {rest : List Request} (hs : AtHead s src p rest)
    (hkind : requestKind p = .unknown) :
    exec .unknownRequest s = .next ((s.withInput rest).sendReply src (requestCode p) { code := .badRequest }) :=
  congrArg Host.Outcome.next (hs.refused hkind rfl)

/-- One row of R18's table of fixed lengths. -/
theorem fixedKind_branch {c k : Byte} {n : Nat} {args : List Byte} {kind other : RequestKind}
    (h : ¬(c = k ∧ args.length = n)) (hother : other = .unknown) :
    (if c = k then fixedKind kind n args else other) = .unknown := by
  split
  · exact if_neg fun hn => h ⟨‹_›, hn⟩
  · exact hother

/-- A code that R18 does not list, or one whose request has another length. -/
theorem requestKind_unknown {c : Byte} {args : List Byte}
    (h : c = 0x00 ∨ 0x10 < c.toNat ∨
      (c, args.length) ∉ [((0x03 : Byte), 8), (0x04, 3), (0x05, 2), (0x06, 1), (0x07, 4), (0x08, 0), (0x09, 1), (0x0A, 1),
        (0x0B, 4), (0x0C, 1), (0x0D, 1), (0x0E, 0), (0x0F, 1), (0x10, 0)] ∧ c ≠ 0x01 ∧ c ≠ 0x02) :
    requestKind (c :: args) = .unknown := by
  have hrow : ∀ (k : Byte) (n : Nat), 0 < k.toNat → k.toNat ≤ 16 →
      (k, n) ∈ [((0x03 : Byte), 8), (0x04, 3), (0x05, 2), (0x06, 1), (0x07, 4), (0x08, 0), (0x09, 1), (0x0A, 1),
        (0x0B, 4), (0x0C, 1), (0x0D, 1), (0x0E, 0), (0x0F, 1), (0x10, 0)] → ¬(c = k ∧ args.length = n) := by
    rintro k n hpos hle hmem ⟨rfl, rfl⟩
    obtain rfl | hlt | ⟨hnot, -⟩ := h
    · exact absurd hpos (by decide)
    · exact absurd hle hlt.not_ge
    · exact hnot hmem
  have htables : c ≠ 0x01 ∧ c ≠ 0x02 := by
    obtain rfl | hlt | ⟨-, hne⟩ := h
    · decide
    · exact ⟨fun e => by subst e; exact absurd hlt (by decide), fun e => by subst e; exact absurd hlt (by decide)⟩
    · exact hne
  unfold requestKind
  dsimp only
  rw [if_neg htables.1, if_neg htables.2]
  iterate 14 refine fixedKind_branch (hrow _ _ (by decide) (by decide) (by simp)) ?_
  rfl

theorem writeKind_unknown {args : List Byte}
    (h : ∀ t l, args = t :: l → (t, l.length) ∉ [((0x01 : Byte), 23), (0x02, 6), (0x03, 14), (0x04, 9), (0x05, 30)]) :
    writeKind args = .unknown := by
  cases args with
  | nil => rfl
  | cons t l =>
    have hform := h t l rfl
    unfold writeKind
    dsimp only
    split_ifs <;> simp_all

/-- The selector's length and the part behind it are what R19 asks. -/
theorem readKind_unknown {args : List Byte}
    (h : ∀ t l, args = t :: l → (t, l.length) ∉ [((0x01 : Byte), 1), (0x02, 2), (0x03, 2), (0x04, 3), (0x05, 2)]) :
    readKind args = .unknown := by
  cases args with
  | nil => rfl
  | cons t l =>
    have hform := h t l rfl
    refine if_neg fun ⟨hselector, hne⟩ => ?_
    have hpos : 1 ≤ l.length := List.length_pos_iff.2 hne
    unfold selectorLength at hselector
    split_ifs at hselector with h1 h2 h3 h4 h5 <;> rw [Option.some.injEq] at hselector <;> subst_vars <;>
      exact hform (by simp; omega)

/-- Settles O35. -/
theorem unknownRequestRefused : Obligations.UnknownRequestRefused := fun _ _ _ =>
  ⟨fun hs => hs.exec_unknown rfl, fun _ _ hs h => hs.exec_unknown (requestKind_unknown h),
    fun _ hs h => hs.exec_unknown (writeKind_unknown h), fun _ hs h => hs.exec_unknown (readKind_unknown h)⟩

/-! ## SURVEY (R172 to R174) -/

theorem allPositions_sorted : allPositions.Pairwise (· < ·) := List.pairwise_lt_finRange 32

theorem mem_allPositions (p : Position) : p ∈ allPositions := List.mem_finRange p

theorem State.considered_sorted (s : State) (i : StringNo) (k : Criterion) : (s.considered i k).Pairwise (· < ·) :=
  allPositions_sorted.filter _

theorem State.matching_sorted (s : State) (i : StringNo) (k : Criterion) (v : Int) : (s.matching i k v).Pairwise (· < ·) :=
  (s.considered_sorted i k).filter _

theorem State.mem_considered (s : State) (i : StringNo) (k : Criterion) (p : Position) :
    p ∈ s.considered i k ↔
      if k = .levelLow ∨ k = .valveFault then p.val < (s.str i).cfg.cellCount else s.fresh i p = true := by
  unfold State.considered State.fittedPos
  rw [List.mem_filter]
  cases k <;> simp [mem_allPositions, Criterion.ofReadings]

theorem State.mem_matching (s : State) (i : StringNo) (k : Criterion) (v : Int) (p : Position) :
    p ∈ s.matching i k v ↔
      p ∈ s.considered i k ∧ k.meets v ((s.meanVoltage i).getD 0) (s.cell i p) = true := List.mem_filter

/-- The summary byte of a survey (R174): no match, all that were considered, or some. -/
theorem State.survey_summary (s : State) (i : StringNo) (k : Criterion) (v : Int) :
    (if (s.matching i k v).isEmpty then 1 else 0) +
        (if !(s.considered i k).isEmpty && (s.matching i k v).length = (s.considered i k).length then 2 else 0) =
      if s.matching i k v = [] then 1
      else if (s.matching i k v).length = (s.considered i k).length then 2 else 0 := by
  by_cases hnone : s.matching i k v = []
  · have hseen : (s.considered i k).length = 0 → s.considered i k = [] := List.length_eq_zero_iff.1
    by_cases hlen : (0 : Nat) = (s.considered i k).length
    · simp [hnone, hseen hlen.symm]
    · simp [hnone, hlen]
  · have hseen : s.considered i k ≠ [] := fun h => hnone (by unfold State.matching; rw [h]; rfl)
    simp [hnone, hseen]

theorem criterionOf_le {n : Nat} {k : Criterion} (h : criterionOf n = some k) : n ≤ 5 := by
  by_contra hlt
  obtain ⟨m, rfl⟩ : ∃ m, n = m + 6 := ⟨n - 6, by omega⟩
  cases h

/-- The two bytes of a survey's value (R172). -/
theorem field_four_two (a b c d : Byte) : field [a, b, c, d] 2 2 = [c, d] := rfl

/-- A byte field of a number that fits is that byte. -/
theorem beBytes_one (n : Nat) : beBytes 1 n = [BitVec.ofNat 8 n] := by simp [beBytes]

/-- The data of a survey's reply (R20, R174). -/
theorem State.surveyBytes_eq (s : State) (i : StringNo) {n : Byte} (c : Byte) (k : Criterion) (v : Int)
    (hn : n.toNat = i.val) :
    s.surveyBytes i c.toNat k v =
      [n, c, (if s.matching i k v = [] then 0x01
        else if (s.matching i k v).length = (s.considered i k).length then 0x02 else 0x00),
        BitVec.ofNat 8 (s.matching i k v).length, BitVec.ofNat 8 (s.staleCount i k)] ++
      (s.matching i k v).map fun p => BitVec.ofNat 8 p.val := by
  have hbyte : ∀ (P Q : Prop) [Decidable P] [Decidable Q], BitVec.ofNat 8 (if P then 1 else if Q then 2 else 0) =
      (if P then 0x01 else if Q then 0x02 else 0x00 : Byte) := by
    intro P Q _ _
    split_ifs <;> rfl
  have hflat : ∀ l : List Position, (l.flatMap fun p => [BitVec.ofNat 8 p.val]) = l.map fun p => BitVec.ofNat 8 p.val :=
    fun l => by induction l with
      | nil => rfl
      | cons p l ih => rw [List.flatMap_cons, ih]; rfl
  unfold State.surveyBytes
  dsimp only
  rw [s.survey_summary, ← hn]
  simp only [beBytes_one, hbyte, hflat]
  simp

/-- A SURVEY whose string or criterion is out of range (R172, R173). -/
theorem State.answerSurvey_badRange (s : State) {n c : Byte} (h : 8 ≤ n.toNat ∨ 5 < c.toNat) (high low : Byte) :
    s.answerSurvey [n, c, high, low] = s.refuse .badRange := by
  unfold State.answerSurvey
  simp only [natField_cons_succ, natField_zero_one]
  split
  · rename_i i k hstring hcriterion
    obtain h | h := h
    · rw [stringArg_eq_none h] at hstring
      cases hstring
    · exact absurd (criterionOf_le hcriterion) h.not_ge
  · rfl

theorem State.answerSurvey_eq (s : State) {n c : Byte} {i : StringNo} {k : Criterion} (hn : n.toNat = i.val)
    (hk : criterionOf c.toNat = some k) (high low : Byte) :
    s.answerSurvey [n, c, high, low] =
      if (s.str i).cfg.cellCount = 0 then s.refuse .badState
      else ({ code := .ok, data := s.surveyBytes i c.toNat k (beInt [high, low]) }, s) := by
  unfold State.answerSurvey State.fitted
  simp only [natField_cons_succ, natField_zero_one, stringArg_eq_some hn, hk, field_four_two, bne_iff_ne, ne_eq, ite_not]

/-- Settles O30. -/
theorem surveyAnswersMatches : Obligations.SurveyAnswersMatches := by
  intro s src n c high low rest hs u
  refine ⟨fun h => congrArg Host.Outcome.next (hs.refused rfl (u.answerSurvey_badRange h high low)), fun i k hn hk => ?_⟩
  have hanswer := u.answerSurvey_eq hn hk high low
  refine ⟨fun unfitted => congrArg Host.Outcome.next (hs.refused rfl (hanswer.trans (if_pos unfitted))), fun fitted => ?_⟩
  intro hits seen
  refine ⟨?_, s.matching_sorted i k _, fun p => ?_⟩
  · have hok := hs.takeRequest_eq (k := .survey) (t := u) rfl (hanswer.trans (if_neg fitted)) rfl
    rw [u.surveyBytes_eq i c k _ hn] at hok
    exact congrArg Host.Outcome.next hok
  · rw [State.mem_matching, State.mem_considered]

/-! ## The site ceiling (R72) -/

theorem State.answerSetCeiling_eq (s : State) (c : Byte) :
    s.answerSetCeiling [c] = if 7 < c.toNat then s.refuse .badRange
      else ({ code := .ok }, { s with ceiling := c.toNat }.trigger) := by
  unfold State.answerSetCeiling
  simp only [natField_zero_one]

/-- A SET_CEILING at the head of the queue. -/
theorem AtHead.exec_setCeiling {s : State} {src c : Byte} {rest : List Request} (hs : AtHead s src [0x06, c] rest) :
    (7 < c.toNat → exec .setCeiling s = .next ((s.withInput rest).sendReply src 0x06 { code := .badRange })) ∧
    (c.toNat ≤ 7 → exec .setCeiling s =
      .next (({ s.withInput rest with ceiling := c.toNat }.evaluate).sendReply src 0x06 { code := .ok })) := by
  have hanswer := (s.withInput rest).answerSetCeiling_eq c
  exact ⟨fun h => congrArg Host.Outcome.next (hs.refused rfl (hanswer.trans (if_pos h))),
    fun h => congrArg Host.Outcome.next (hs.triggered (v := { s.withInput rest with ceiling := c.toNat }) rfl
      (hanswer.trans (if_neg h.not_gt)) rfl)⟩
end Sys2Proof.Machine
end

section
/-! PROOF. What a payload or a table body carries is read back (O6), and a report that arrives reaches its owner (O50). -/

namespace Sys2Proof.Machine

open Sys2Proof

/-! ## Fields behind and in front of other fields (R16) -/

/-- A field behind a longer part is read from what follows it. -/
theorem natField_beBytes_skip {k off : Nat} (h : k ≤ off) (n : Nat) (r : List Byte) (len : Nat) :
    natField (beBytes k n ++ r) off len = natField r (off - k) len := by
  have hdrop : (beBytes k n ++ r).drop off = r.drop (off - k) := by
    obtain ⟨d, rfl⟩ := Nat.exists_eq_add_of_le h
    rw [← List.drop_drop, List.drop_left' (beBytes_length k n), Nat.add_sub_cancel_left]
  rw [natField, natField, field, field, hdrop]

theorem natField_beBytes_head {k n : Nat} (h : n < 256 ^ k) (r : List Byte) : natField (beBytes k n ++ r) 0 k = n :=
  natField_append_beBytes [] r h

theorem natField_beBytes_self {k n : Nat} (h : n < 256 ^ k) : natField (beBytes k n) 0 k = n := by
  have := natField_beBytes_head h []
  rwa [List.append_nil] at this

theorem natField_cons_skip {off : Nat} (h : 1 ≤ off) (b : Byte) (r : List Byte) (len : Nat) :
    natField (b :: r) off len = natField r (off - 1) len := by
  obtain ⟨d, rfl⟩ := Nat.exists_eq_add_of_le' h
  exact natField_cons_succ b r d len

/-! ## Reports (R17) -/

theorem beNat_two {n : Nat} (h : n < 65536) : beNat [BitVec.ofNat 8 (n / 256), BitVec.ofNat 8 n] = n := by
  have := beNat_beBytes (k := 2) (n := n) (by omega)
  simpa [beBytes] using this

theorem beBytes_two (n : Nat) : beBytes 2 n = [BitVec.ofNat 8 (n / 256), BitVec.ofNat 8 n] := by simp [beBytes]

theorem beNat_word (x : BitVec 16) : beNat [BitVec.ofNat 8 (x.toNat / 256), BitVec.ofNat 8 x.toNat] = x.toNat :=
  beNat_two x.isLt

/-- The samples of a report, one after the other. -/
theorem parseSamples_flatMap (l : List CellSample) : parseSamples (l.flatMap sampleBytes) = some l := by
  induction l with
  | nil => rfl
  | cons x l ih =>
    have hbytes : (x :: l).flatMap sampleBytes = BitVec.ofNat 8 (x.voltage.toNat / 256) :: BitVec.ofNat 8 x.voltage.toNat ::
        x.tHalf :: x.status :: l.flatMap sampleBytes := by
      rw [List.flatMap_cons, sampleBytes, beBytes_two]
      rfl
    rw [hbytes, parseSamples, ih, beNat_word, BitVec.ofNat_toNat, BitVec.setWidth_eq]
    rfl

theorem flatMap_sampleBytes_length (l : List CellSample) : (l.flatMap sampleBytes).length = 4 * l.length := by
  induction l with
  | nil => rfl
  | cons x l ih => rw [List.flatMap_cons, List.length_append, ih, List.length_cons, sampleBytes]; simp; omega

theorem parseReport_cell {samples : List CellSample} (hpos : 1 ≤ samples.length) (hle : samples.length ≤ 4) :
    parseReport 0x10 (cellPayload samples) = some (.cell samples) := by
  have hcount : (BitVec.ofNat 8 samples.length).toNat = samples.length := by
    rw [BitVec.toNat_ofNat]; omega
  have hparse : parseReport 0x10 (cellPayload samples) = parseCell (cellPayload samples) := rfl
  rw [hparse, cellPayload, parseCell, hcount, if_pos ⟨hpos, hle, flatMap_sampleBytes_length samples⟩, parseSamples_flatMap]
  rfl

theorem parseReport_string (current : BitVec 32) (voltage : BitVec 16) :
    parseReport 0x11 (stringPayload current voltage) = some (.string current.toInt voltage.toNat) := by
  obtain ⟨a, b, c, d, hfour⟩ : ∃ a b c d, beBytes 4 current.toNat = [a, b, c, d] := ⟨_, _, _, _, rfl⟩
  have hcurrent : beNat [a, b, c, d] = current.toNat := by
    rw [← hfour]; exact beNat_beBytes (k := 4) current.isLt
  have hint : beInt [a, b, c, d] = current.toInt := by
    have hpow : (256 : Nat) ^ [a, b, c, d].length = 2 ^ 32 := by norm_num
    rw [beInt, hcurrent, BitVec.toInt_eq_toNat_cond, hpow]
  have hparse : ∀ e f : Byte, parseReport 0x11 [a, b, c, d, e, f] = some (.string (beInt [a, b, c, d]) (beNat [e, f])) :=
    fun _ _ => rfl
  rw [stringPayload, hfour, beBytes_two]
  exact (hparse _ _).trans (by rw [hint, beNat_word])

theorem parseReport_level (position : Byte) (code : LevelCode) :
    parseReport 0x12 (levelPayload position code) = some (.level position.toNat code) := by cases code <;> rfl

theorem valveCodeOf_byte (code : ValveCode) : valveCodeOf (valveCodeByte code) = some code := by cases code <;> rfl
theorem chargerCodeOf_byte (code : ChargerCode) : chargerCodeOf (chargerCodeByte code) = some code := by cases code <;> rfl

theorem parseReport_valve (channel : Byte) (code : ValveCode) (ml : BitVec 16) :
    parseReport 0x13 (valvePayload channel code ml) = some (.valve channel code ml.toNat) := by
  have hparse : parseReport 0x13 (valvePayload channel code ml) = (valveCodeOf (valveCodeByte code)).map
      (.valve channel · (beNat [BitVec.ofNat 8 (ml.toNat / 256), BitVec.ofNat 8 ml.toNat])) := by
    rw [valvePayload, beBytes_two]
    rfl
  rw [hparse, valveCodeOf_byte, beNat_word]
  rfl

theorem parseReport_switch (position : SwitchCode) :
    parseReport 0x14 (switchPayload position) = some (.switch position) := by cases position <;> rfl

theorem parseReport_charger (output : Byte) (state : ChargerCode) (voltage current : BitVec 16) :
    parseReport 0x15 (chargerPayload output state voltage current) =
      some (.charger output.toNat state voltage.toNat current.toNat) := by
  have hparse : parseReport 0x15 (chargerPayload output state voltage current) =
      (chargerCodeOf (chargerCodeByte state)).map (.charger output.toNat ·
        (beNat [BitVec.ofNat 8 (voltage.toNat / 256), BitVec.ofNat 8 voltage.toNat])
        (beNat [BitVec.ofNat 8 (current.toNat / 256), BitVec.ofNat 8 current.toNat])) := by
    rw [chargerPayload, beBytes_two, beBytes_two]
    rfl
  rw [hparse, chargerCodeOf_byte, beNat_word, beNat_word]
  rfl

theorem parseReport_gas (concentration : BitVec 16) (status : Byte) :
    parseReport 0x16 (gasPayload concentration status) = some (.gas concentration.toNat (status.getLsbD 0)) := by
  have hparse : parseReport 0x16 (gasPayload concentration status) =
      some (.gas (beNat [BitVec.ofNat 8 (concentration.toNat / 256), BitVec.ofNat 8 concentration.toNat])
        (statusFault status)) := by
    rw [gasPayload, beBytes_two]
    rfl
  rw [hparse, beNat_word]
  rfl

/-! ## Configuration bodies (R19) -/

theorem inRange_iff (lo hi v : Nat) : inRange lo hi v = true ↔ lo ≤ v ∧ v ≤ hi := by
  unfold inRange
  rw [Bool.and_eq_true, decide_eq_true_iff, decide_eq_true_iff]

theorem Site.inRange_iff (x : Site) : x.inRange = true ↔
    1 ≤ x.bays ∧ x.bays ≤ 2 ∧ x.budget ≤ 4000 ∧ 50 ≤ x.holdThreshold ∧ x.holdThreshold ≤ 1000 ∧
    x.releaseThreshold < x.holdThreshold ∧ 10 ≤ x.holdLimit ∧ x.holdLimit ≤ 240 ∧ x.runOn ≤ 120 ∧
    10 ≤ x.fillVolume ∧ x.fillVolume ≤ 2000 ∧ 50 ≤ x.pullIn ∧ x.pullIn ≤ 2000 ∧ 10 ≤ x.duty ∧ x.duty ≤ 100 ∧
    1 ≤ x.maxOpen ∧ x.maxOpen ≤ 120 ∧ 5 ≤ x.sampleTimeout ∧ x.sampleTimeout ≤ 120 ∧ 10 ≤ x.staleAge ∧ x.staleAge ≤ 600 ∧
    2 ≤ x.confirmTime ∧ x.confirmTime ≤ 60 ∧ 1 ≤ x.sweepTimeout ∧ x.sweepTimeout ≤ 30 := by
  unfold Site.inRange
  simp only [Bool.and_eq_true, Machine.inRange_iff, decide_eq_true_iff, zero_le, true_and, and_assoc]

theorem Profile.inRange_iff (x : Profile) : x.inRange = true ↔
    2200 ≤ x.vEq ∧ x.vEq ≤ 2600 ∧ 2150 ≤ x.floatV ∧ x.floatV ≤ 2350 ∧ x.k ≤ 6000 ∧ 2100 ≤ x.clampMin ∧
    x.clampMin ≤ x.clampMax ∧ x.clampMax ≤ 2700 ∧ 10 ≤ x.rate ∧ x.rate ≤ 200 ∧ 60 ≤ x.maxDuration ∧ x.maxDuration ≤ 1440 ∧
    5 ≤ x.window ∧ x.window ≤ 60 ∧ x.window ≤ x.maxDuration ∧ 10 ≤ x.tolerance ∧ x.tolerance ≤ 10000 ∧
    2 ≤ x.plateauRequired ∧ x.plateauRequired ≤ 8 ∧ 10 ≤ x.spreadLimit ∧ x.spreadLimit ≤ 300 ∧
    (x.spreadTrigger = 0 ∨ (20 ≤ x.spreadTrigger ∧ x.spreadTrigger ≤ 500)) ∧ 2300 ≤ x.ovLimit ∧ x.ovLimit ≤ 2900 ∧
    x.clampMax < x.ovLimit ∧ 60 ≤ x.otLimit ∧ x.otLimit ≤ 130 ∧ x.gassing ≤ 1000 ∧ x.settle ≤ 480 ∧
    1 ≤ x.retryDelay ∧ x.retryDelay ≤ 168 := by
  unfold Profile.inRange
  simp only [Bool.and_eq_true, Bool.or_eq_true, Machine.inRange_iff, decide_eq_true_iff, zero_le, true_and, and_assoc]
  constructor
  · rintro ⟨_, _, _, _, _, _, _, _, _, h⟩
    obtain ⟨_, h⟩ := h
    refine ⟨‹_›, ‹_›, ‹_›, ‹_›, ‹_›, ‹_›, ?_, ‹_›, h⟩
    assumption
  · rintro ⟨h1, h2, h3, h4, h5, h6, h7, h8, h⟩
    exact ⟨h1, h2, h3, h4, h5, h6, by omega, by omega, h8, h7, h⟩

theorem readSite_siteBody {x : Site} (h : x.inRange = true) : readSite (siteBody x) = x := by
  rw [Site.inRange_iff] at h
  unfold readSite siteBody byteField
  simp (disch := omega) only [List.append_assoc, List.cons_append, List.nil_append, natField_beBytes_skip,
    natField_beBytes_head, natField_beBytes_self, natField_cons_skip, natField_zero_one, Nat.reduceSub, Nat.sub_self,
    BitVec.ofNat_toNat, BitVec.setWidth_eq]

theorem readProfile_profileBody {x : Profile} (h : x.inRange = true) : readProfile (profileBody x) = x := by
  rw [Profile.inRange_iff] at h
  unfold readProfile profileBody
  simp (disch := omega) only [List.append_assoc, natField_beBytes_skip, natField_beBytes_head, natField_beBytes_self,
    Nat.reduceSub, Nat.sub_self]

theorem readString_stringBody {x : StringConfig} (cells : x.cellCount ≤ 32) (capacity : x.capacity ≤ 3000) (level : x.level ≤ 7)
    (interval : x.interval ≤ 8760) (threshold : x.threshold ≤ 200000) : readString (stringBody x) = x := by
  have hprofile := x.profile.isLt
  unfold readString stringBody byteField
  simp (disch := omega) only [List.append_assoc, natField_beBytes_skip, natField_beBytes_head, natField_cons_skip,
    natField_zero_one, Nat.reduceSub, Nat.sub_self, BitVec.ofNat_toNat, BitVec.setWidth_eq, Fin.ofNat_val_eq_self]

theorem roleOf_roleCode (r : Role) : roleOf (roleCode r) = some r := by cases r <;> rfl

theorem roleCode_lt (r : Role) : roleCode r < 256 := by cases r <;> decide

/-- A well-formed entry is read back from its body. -/
theorem readEntry_mapBody {e : MapEntry} (string : e.role.hasString = true ↔ e.string.isSome = true)
    (block : match e.block with
      | none => e.role ≠ .cellMonitor
      | some (first, count) => e.role = .cellMonitor ∧ first ≤ 31 ∧ 1 ≤ count ∧ count ≤ 4 ∧ first + count ≤ 32) :
    readEntry e.addr (mapBody (some e)) = some e := by
  obtain ⟨addr, role, str, blk, pass⟩ := e
  have hrole := roleCode_lt role
  have hstr : (str.map (·.val)).getD 0xFF < 256 := by
    cases str with
    | none => decide
    | some i => exact i.isLt.trans (by decide)
  have hblk : (blk.map (·.1)).getD 0xFF < 256 ∧ (blk.map (·.2)).getD 0 < 256 := by
    cases blk with
    | none => decide
    | some p => dsimp only at block; exact ⟨by simp; omega, by simp; omega⟩
  have hfields : natField (mapBody (some ⟨addr, role, str, blk, pass⟩)) 0 1 = roleCode role ∧
      natField (mapBody (some ⟨addr, role, str, blk, pass⟩)) 1 1 = (str.map (·.val)).getD 0xFF ∧
      natField (mapBody (some ⟨addr, role, str, blk, pass⟩)) 2 1 = (blk.map (·.1)).getD 0xFF ∧
      natField (mapBody (some ⟨addr, role, str, blk, pass⟩)) 3 1 = (blk.map (·.2)).getD 0 ∧
      natField (mapBody (some ⟨addr, role, str, blk, pass⟩)) 4 1 = if pass then 0 else 1 := by
    unfold mapBody optBytes
    simp (disch := omega) only [List.append_assoc, natField_beBytes_skip, natField_beBytes_head, natField_zero_one,
      Nat.reduceSub, Nat.sub_self]
    cases pass <;> simp
  obtain ⟨h0, h1, h2, h3, h4⟩ := hfields
  have hindex : role.hasString = true → indexOf? 8 ((str.map (·.val)).getD 0xFF) = str := by
    intro h
    obtain ⟨i, rfl⟩ := Option.isSome_iff_exists.1 (string.1 h)
    exact indexOf?_val i
  have hnostring : role.hasString ≠ true → str = none := fun h => by
    cases str with
    | none => rfl
    | some i => exact absurd (string.2 rfl) h
  have hstringOk : (if role.hasString = true then (indexOf? 8 ((str.map (·.val)).getD 0xFF)).isSome
      else decide ((str.map (·.val)).getD 0xFF = 0xFF)) = true := by
    split
    · rename_i h; rw [hindex h]; exact string.1 h
    · rename_i h; rw [hnostring h]; rfl
  have hblockOk : (if role = .cellMonitor then (blk.map (·.1)).getD 0xFF ≤ 31 ∧ 1 ≤ (blk.map (·.2)).getD 0 ∧
        (blk.map (·.2)).getD 0 ≤ 4 ∧ (blk.map (·.1)).getD 0xFF + (blk.map (·.2)).getD 0 ≤ 32
      else (blk.map (·.1)).getD 0xFF = 0xFF ∧ (blk.map (·.2)).getD 0 = 0) := by
    cases blk with
    | none => rw [if_neg block]; exact ⟨rfl, rfl⟩
    | some p => rw [if_pos block.1]; exact block.2
  have hresult : (if role.hasString = true then indexOf? 8 ((str.map (·.val)).getD 0xFF) else none) = str ∧
      (if role = .cellMonitor then some ((blk.map (·.1)).getD 0xFF, (blk.map (·.2)).getD 0) else none) = blk := by
    refine ⟨?_, ?_⟩
    · split
      · exact hindex ‹_›
      · exact (hnostring ‹_›).symm
    · cases blk with
      | none => exact if_neg block
      | some p => exact if_pos block.1
  unfold readEntry
  simp only [h0, h1, h2, h3, h4, roleOf_roleCode]
  have haction : (if pass = true then 0 else 1) ≤ 1 ∧ decide ((if pass = true then 0 else 1) = 0) = pass := by
    cases pass <;> decide
  rw [if_pos ⟨by simpa using hstringOk, by simpa using hblockOk, haction.1⟩, hresult.1, hresult.2, haction.2]

theorem overrideField_getD {v : Option Nat} (h : ∀ n, v = some n → n ≠ 0) : overrideField (v.getD 0) = v := by
  unfold overrideField
  cases v with
  | none => rfl
  | some n => exact if_neg (h n rfl)

/-- A binding and an override in range are read back from a cell's body. -/
theorem read_cellBody {c : Cell} (binding : ∀ b, c.binding = some b → b.addr ≠ 0x00)
    (volume : ∀ v, c.override.volume = some v → 10 ≤ v ∧ v ≤ 2000)
    (maxOpen : ∀ v, c.override.maxOpen = some v → 1 ≤ v ∧ v ≤ 120)
    (duty : ∀ v, c.override.duty = some v → 10 ≤ v ∧ v ≤ 100) :
    readBinding (cellBody c) = c.binding ∧ readOverride (cellBody c) = c.override := by
  obtain ⟨x, y, hbody, hbinding⟩ : ∃ x y : Byte, cellBody c = [x, y] ++ beBytes 2 (c.override.volume.getD 0) ++
      beBytes 1 (c.override.maxOpen.getD 0) ++ beBytes 1 (c.override.duty.getD 0) ++ [if c.valveFault then 0x01 else 0x00] ∧
      (if x = 0x00 then none else some ⟨x, y⟩) = c.binding := by
    unfold cellBody
    cases hb : c.binding with
    | none => exact ⟨0x00, 0x00, rfl, rfl⟩
    | some b => exact ⟨b.addr, b.channel, rfl, if_neg (binding b hb)⟩
  have hfit : ∀ {v : Option Nat} {n m : Nat}, (∀ k, v = some k → n ≤ k ∧ k ≤ m) → v.getD 0 ≤ m := by
    intro v n m h
    cases v with
    | none => exact Nat.zero_le m
    | some k => exact (h k rfl).2
  have hv := hfit volume
  have hm := hfit maxOpen
  have hd := hfit duty
  unfold readBinding readOverride byteField
  rw [hbody]
  simp (disch := omega) only [List.append_assoc, List.cons_append, List.nil_append, natField_beBytes_skip,
    natField_beBytes_head, natField_cons_skip, natField_zero_one, Nat.reduceSub, Nat.sub_self,
    BitVec.ofNat_toNat, BitVec.setWidth_eq]
  refine ⟨hbinding, ?_⟩
  rw [overrideField_getD fun n h => by have := volume n h; omega, overrideField_getD fun n h => by have := maxOpen n h; omega,
    overrideField_getD fun n h => by have := duty n h; omega]

/-- Settles O6, layout by layout. -/
theorem payloadsReadBack : Obligations.PayloadsReadBack :=
  ⟨fun _ => parseReport_cell, parseReport_string, parseReport_level, parseReport_valve, parseReport_switch,
    parseReport_charger, parseReport_gas, fun _ => readSite_siteBody, fun _ => readProfile_profileBody,
    fun _ => readString_stringBody, fun _ => readEntry_mapBody, fun _ => read_cellBody⟩

/-! ## Reports that arrive (R7, R23) -/

section
variable {s : State} {dst src : Byte} {e : MapEntry} {role : Role}

/-- The entry found at an address is of that address. -/
theorem State.mapped_addr {s : State} {a : Byte} {e : MapEntry} (h : s.mapped a = some e) : e.addr = a :=
  of_decide_eq_true (p := e.addr = a) (List.find?_some (p := fun x : MapEntry => decide (x.addr = a)) h)

/-- A report of the source's role is handled, its evaluation made, and its frame passed on. -/
theorem ReportArrives.frameIn_eq (h : ReportArrives s dst src e role) {kind : Byte} {payload : List Byte} {r : Report}
    (hlen : payload.length ≤ 40) (hkind : roleKind role = some kind) (hparse : parseReport kind payload = some r) :
    s.frameIn .chain (mkFrame dst src kind payload) =
      (s.handleReport e r).settle.passOn e (mkFrame dst src kind payload) := by
  have htakes : s.takesIn (mkFrame dst src kind payload) = some (e, r) := by
    unfold State.takesIn
    simp only [mkFrame_src, mkFrame_kind, mkFrame_payload, h.mapped, h.roleOk, hkind, if_true, hparse, Option.map_some]
  have hreceived : s.chainReceived (mkFrame dst src kind payload) =
      (s.handleReport e r).settle.passOn e (mkFrame dst src kind payload) := by
    unfold State.chainReceived State.passOn
    simp only [mkFrame_dst, mkFrame_src, h.dstOk, h.srcOk, htakes, Bool.false_eq_true, if_false]
  exact (State.frameIn_eq (p := .chain) h.hunt hlen dst src kind).trans hreceived

end

/-- Settles O50, report by report. -/
theorem reportsHandledAndPassedOn : Obligations.ReportsHandledAndPassedOn := by
  intro s dst src e
  refine ⟨fun samples hpos hle h => ?_, fun current voltage h => ?_, fun position code h => ?_, fun channel code ml h => ?_,
    fun position h => ?_, fun output state voltage current h => ?_, fun concentration status h => ?_⟩
  · refine congrArg Host.Outcome.next (h.frameIn_eq ?_ rfl (parseReport_cell hpos hle))
    rw [cellPayload, List.length_cons, flatMap_sampleBytes_length]
    omega
  · exact congrArg Host.Outcome.next (h.frameIn_eq (by simp [stringPayload]) rfl (parseReport_string current voltage))
  · exact congrArg Host.Outcome.next (h.frameIn_eq (by simp [levelPayload]) rfl (parseReport_level position code))
  · refine congrArg Host.Outcome.next ((h.frameIn_eq (by simp [valvePayload]) rfl (parseReport_valve channel code ml)).trans ?_)
    rw [State.handleReport, State.mapped_addr h.mapped]
    rfl
  · exact congrArg Host.Outcome.next (h.frameIn_eq (by simp [switchPayload]) rfl (parseReport_switch position))
  · refine congrArg Host.Outcome.next
      ((h.frameIn_eq (by simp [chargerPayload]) rfl (parseReport_charger output state voltage current)).trans ?_)
    rw [State.handleReport, State.mapped_addr h.mapped]
    rfl
  · refine congrArg Host.Outcome.next
      ((h.frameIn_eq (by simp [gasPayload]) rfl (parseReport_gas concentration status)).trans ?_)
    rw [State.handleReport, State.mapped_addr h.mapped]
    rfl

end Sys2Proof.Machine
end

section
/-! PROOF. The Hold Set (O54), and the table writes of the Source Map, the Cell Table and the Profiles (O18, O20, O21). -/

namespace Sys2Proof.Machine

open Sys2Proof

/-! ## Takes and releases (R150 to R153) -/

theorem find?_insertHold (h : Hold) (a : Byte) : ∀ l : List Hold, l.find? (·.addr = h.addr) = none →
    (insertHold h l).find? (·.addr = a) = if h.addr = a then some h else l.find? (·.addr = a)
  | [], _ => by
    unfold insertHold
    rw [List.find?_cons]
    split <;> simp_all
  | x :: l, hnone => by
    have hx : x.addr ≠ h.addr := by simpa using List.find?_eq_none.1 hnone x (.head _)
    have hl : l.find? (·.addr = h.addr) = none := List.find?_eq_none.2 fun y hy => List.find?_eq_none.1 hnone y (.tail _ hy)
    have ih := find?_insertHold h a l hl
    unfold insertHold
    split
    · rw [List.find?_cons]
      split <;> simp_all
    · rw [List.find?_cons, List.find?_cons, ih]
      by_cases ha : x.addr = a
      · have hne : h.addr ≠ a := fun e => hx (ha.trans e.symm)
        simp [ha, hne]
      · simp [ha]

/-- After a take of a free address, that address has the new holder, and every other its old one. -/
theorem State.holderOf_takeHold_free {s : State} {a : Byte} (free : s.holderOf a = none) (h : Holder) (a' : Byte) :
    (s.takeHold a h).holderOf a' = if a = a' then some h else s.holderOf a' := by
  have hfind : s.holds.find? (·.addr = a) = none := by
    unfold State.holderOf at free
    simpa using free
  unfold State.holderOf
  rw [State.takeHold_holds s a h free, find?_insertHold ⟨a, h⟩ a' s.holds hfind]
  split <;> rfl

/-- The state with one hold more, before the purge of R152. -/
theorem purges_eq (a : Byte) (f : Frame) :
    purges a f = (decide (f.dst = a) && decide (0x20 ≤ f.kind.toNat) && decide (f.kind.toNat ≤ 0x2F)) := by
  unfold purges isCommandKind
  rw [Bool.and_assoc]

/-- A fold of offers to the trunk-local queue leaves the chain port. -/
theorem State.foldl_offerUp_chain (g : State → Frame → Frame) (l : List Frame) (s : State) :
    (l.foldl (fun s f => s.offerUp (g s f)) s).fp.chain = s.fp.chain :=
  foldl_keeps (fun t : State => t.fp.chain = s.fp.chain) _ (fun t f h => (t.offerUp_chain (g t f)).1.trans h) l s rfl

/-- With room for all, on a port that is SENDING, each refused frame gives one REJECT, in order. -/
theorem State.foldl_reject {g : Frame} (h : Holder) : ∀ (l : List Frame) (s : State), s.fp.trunk.sending = some g →
    s.mgmt.mu = .idle → s.fp.trunk.localQ.length + l.length ≤ 8 →
    l.foldl (fun s f => s.offerUp (rejectFrame s.own f h)) s =
      s.modPort .trunk fun q => { q with localQ := q.localQ ++ l.map fun f => rejectFrame s.own f h }
  | [], s, _, _, _ => by
    simp only [List.foldl_nil, List.map_nil, List.append_nil]
    exact (State.setRx_self (s := s) (p := .trunk) rfl).symm
  | f :: l, s, sending, idle, room => by
    rw [List.length_cons] at room
    have hpush : s.offerUp (rejectFrame s.own f h) =
        s.modPort .trunk fun q => { q with localQ := q.localQ ++ [rejectFrame s.own f h] } := by
      rw [(s.offerUp_iff _).1 (by omega) idle]
      exact congrArg (fun q => { s with fp := { s.fp with trunk := q } }) 
        (PortState.arbitrate_sending { s.fp.trunk with localQ := s.fp.trunk.localQ ++ [rejectFrame s.own f h] } g sending)
    rw [List.foldl_cons, hpush, State.foldl_reject h l]
    · rw [State.modPort_modPort]
      unfold State.modPort
      simp only [Function.comp, List.append_assoc, List.map_cons, List.singleton_append]
      rfl
    · exact sending
    · exact idle
    · show (s.fp.trunk.localQ ++ [rejectFrame s.own f h]).length + l.length ≤ 8
      rw [List.length_append, List.length_singleton]
      omega

theorem State.purge_chain (s : State) (a : Byte) (h : Holder) :
    (s.purge a h).fp.chain = { s.fp.chain with forwardQ := s.fp.chain.forwardQ.filter (!purges a ·) } :=
  State.foldl_offerUp_chain _ _ _

/-- Settles O54. -/
theorem holdsTakenAndReleased : Obligations.HoldsTakenAndReleased := by
  intro s a h toPurge
  have hpurge : toPurge = purges a := funext fun f => (purges_eq a f).symm
  rw [hpurge]
  refine ⟨fun held => ?_, fun free => ?_, fun x => s.mem_releaseHold a h x, rfl, fun i b limit reduced => ?_⟩
  · obtain ⟨h', hh⟩ := Option.ne_none_iff_exists'.1 held
    exact s.takeHold_held a h h' hh
  · have hholder := State.holderOf_takeHold_free free h
    have htake := s.takeHold_free a h free
    refine ⟨by rw [hholder a, if_pos rfl], fun a' ha => by rw [hholder a', if_neg (Ne.symm ha)], ?_, fun hnone => ?_,
      fun g sending idle room => ?_, by rw [State.takeHold_eq], by rw [State.takeHold_eq]⟩
    · rw [htake, State.purge_chain]
    · rw [htake]
      unfold State.purge
      dsimp only
      rw [hnone]
      exact ⟨rfl, rfl⟩
    · rw [htake]
      unfold State.purge
      have hreject := State.foldl_reject h (s.fp.chain.forwardQ.filter (purges a))
        ({ s with holds := insertHold ⟨a, h⟩ s.holds }.modPort .chain fun q =>
          { q with forwardQ := q.forwardQ.filter (!purges a ·) }) sending idle room
      dsimp only at hreject ⊢
      rw [hreject]
      exact ⟨rfl, rfl⟩
  · intro switch charger
    set v := (s.setBay b { state := .busy, string := some i, limit := limit, reduced := reduced }).modStr i fun r =>
      { r with bay := some b, state := .baseline, jobCharge := 0, startMinute := s.minute } with hv
    have hswitch : (v.str i).cfg.switch = (s.str i).cfg.switch := by rw [hv, State.str_modStr]; rfl
    have hgrant : s.grantEqualise i b limit reduced =
        ((v.takeTwo ⟨(v.str i).cfg.switch, .switch i⟩ charger).baselineSweep i).noteBayEntry := rfl
    rw [hswitch] at hgrant
    exact ⟨v, v.takeTwo switch charger, hgrant, rfl, rfl, fun hle => if_neg hle.not_gt, fun hlt => if_pos hlt⟩

/-! ## Cell Table writes (R27) -/

section
variable (s : State)

theorem State.mappedAs_iff (a : Byte) (role : Role) :
    s.mappedAs a role = true ↔ ∃ e, s.mapped a = some e ∧ e.role = role := by
  unfold State.mappedAs
  cases s.mapped a with
  | none => simp
  | some e => simp

theorem State.mappedFor_iff (a : Byte) (role : Role) (i : StringNo) :
    s.mappedFor a role i = true ↔ ∃ e, s.mapped a = some e ∧ e.role = role ∧ e.string = some i := by
  unfold State.mappedFor
  cases s.mapped a with
  | none => simp
  | some e => simp

theorem State.not_mappedAs_iff (a : Byte) (role : Role) :
    s.mappedAs a role = false ↔ ∀ e, s.mapped a = some e → e.role ≠ role := by
  rw [← Bool.not_eq_true, State.mappedAs_iff]
  push Not
  rfl

theorem mem_allStrings (i : StringNo) : i ∈ allStrings := List.mem_finRange i

theorem State.boundElsewhere_iff (i : StringNo) (p : Position) (b : Binding) :
    s.boundElsewhere i p b = true ↔ ∃ j q, ¬(j = i ∧ q = p) ∧ (s.cell j q).binding = some b := by
  unfold State.boundElsewhere
  simp only [List.any_eq_true, mem_allStrings, mem_allPositions, true_and, Bool.and_eq_true, decide_eq_true_iff,
    Bool.not_eq_true', Bool.and_eq_false_imp, decide_eq_false_iff_not, not_and]
  exact ⟨fun ⟨j, q, hb, hne⟩ => ⟨j, q, hne, hb⟩, fun ⟨j, q, hne, hb⟩ => ⟨j, q, hb, hne⟩⟩

theorem State.cellConflict_iff (i : StringNo) (p : Position) (bind : Option Binding) :
    s.cellConflict i p bind = true ↔
      (∃ b, bind = some b ∧ ((∀ e, s.mapped b.addr = some e → e.role ≠ .valve) ∨
        ∃ j q, ¬(j = i ∧ q = p) ∧ (s.cell j q).binding = some b)) ∨
      ((s.str i).state = .watering ∧ bind ≠ (s.cell i p).binding) := by
  unfold State.cellConflict
  cases bind with
  | none => simp
  | some b =>
    simp only [Bool.or_eq_true, Bool.and_eq_true, Bool.not_eq_true', decide_eq_true_iff, State.not_mappedAs_iff,
      State.boundElsewhere_iff, Option.some.injEq, exists_eq_left']

end

theorem cellBodyInRange_iff (l : List Byte) : cellBodyInRange l = true ↔
    natField l 1 1 ≤ 7 ∧ (natField l 2 2 = 0 ∨ (10 ≤ natField l 2 2 ∧ natField l 2 2 ≤ 2000)) ∧ natField l 4 1 ≤ 120 ∧
      (natField l 5 1 = 0 ∨ (10 ≤ natField l 5 1 ∧ natField l 5 1 ≤ 100)) ∧ (natField l 0 1 = 0 → natField l 1 1 = 0) ∧
      natField l 6 1 ≤ 1 := by
  unfold cellBodyInRange
  simp only [Bool.and_eq_true, Bool.or_eq_true, inRange_iff, decide_eq_true_iff]
  constructor
  · rintro ⟨⟨⟨⟨⟨h1, h2⟩, h3⟩, h4⟩, h5⟩, h6⟩
    exact ⟨h1, h2, by omega, h4, fun h => h5.resolve_left (absurd h), h6⟩
  · rintro ⟨h1, h2, h3, h4, h5, h6⟩
    exact ⟨⟨⟨⟨⟨h1, h2⟩, by omega⟩, h4⟩, by tauto⟩, h6⟩

/-- A TABLE_WRITE of a cell of an existing string and position, its body in range. -/
theorem State.writeCell_eq (s : State) {n m : Byte} {i : StringNo} {p : Position} (hn : n.toNat = i.val) (hm : m.toNat = p.val)
    (body : List Byte) : s.writeCell (n :: m :: body) =
      if !cellBodyInRange body then s.refuse .badRange
      else if s.cellConflict i p (readBinding body) then s.refuse .badState
      else ({ code := .ok }, (s.modCell i p fun c =>
        { c with binding := readBinding body, override := readOverride body,
                 valveFault := c.valveFault && natField body 6 1 ≠ 0 }).trigger) := by
  unfold State.writeCell
  simp only [natField_cons_succ, natField_zero_one, hn, hm, indexOf?_val, List.drop_succ_cons, List.drop_zero]

theorem State.writeCell_badRange (s : State) {n m : Byte} {body : List Byte}
    (h : 8 ≤ n.toNat ∨ 32 ≤ m.toNat ∨ ¬cellBodyInRange body = true) :
    s.writeCell (n :: m :: body) = s.refuse .badRange := by
  unfold State.writeCell
  simp only [natField_cons_succ, natField_zero_one, List.drop_succ_cons, List.drop_zero]
  split
  · rename_i i p hi hp
    obtain h | h | h := h
    · rw [indexOf?_eq_none h] at hi; cases hi
    · rw [indexOf?_eq_none h] at hp; cases hp
    · rw [if_pos (by simpa using h)]
  · rfl

/-- The last byte of a 7-byte body. -/
theorem natField_six_ne_zero {body : List Byte} (h : body.length = 7) :
    decide (natField body 6 1 ≠ 0) = (body.getLast? != some 0x00) := by
  match body, h with
  | [a, b, c, d, e, f, g], _ =>
    have hg : natField [a, b, c, d, e, f, g] 6 1 = g.toNat := by simp
    rw [hg, Bool.eq_iff_iff, decide_eq_true_iff, bne_iff_ne]
    simp [← BitVec.toNat_inj]

/-- Settles O20. -/
theorem cellRecordWritten : Obligations.CellRecordWritten := by
  intro s src n m rest body hbody hs u part inRange
  have hin : inRange ↔ cellBodyInRange body = true := (cellBodyInRange_iff body).symm
  have hkind : requestKind ([0x01, 0x04, n, m] ++ body) = .writeCell :=
    if_pos ⟨rfl, by simp [hbody]⟩
  rw [hin]
  refine ⟨fun h => congrArg Host.Outcome.next (hs.refused hkind (u.writeCell_badRange h)), fun i p hn hm hrange => ?_⟩
  intro conflict
  have hconflict : conflict ↔ u.cellConflict i p (readBinding body) = true := (u.cellConflict_iff i p _).symm
  have hanswer := (u.writeCell_eq hn hm body).trans (if_neg (by simp [hrange]))
  rw [hconflict]
  refine ⟨fun h => congrArg Host.Outcome.next (hs.refused hkind (hanswer.trans (if_pos h))), fun h => ?_⟩
  rw [if_neg h] at hanswer
  have hflag := natField_six_ne_zero hbody
  simp only [ne_eq] at hanswer hflag
  simp only [hflag] at hanswer
  exact congrArg Host.Outcome.next (hs.triggered hkind hanswer rfl)

end Sys2Proof.Machine
end

section
/-! PROOF. The layer of facts about bays and readings: what a step of a bay writes and sends, what the figures of a string are
computed from, and what a sweep and its end write (R41, R48 to R57, R86 to R88). -/

namespace Sys2Proof.Machine

open Sys2Proof

/-! ## The steps of a bay (R86) -/

/-- The command is one whose taking starts the confirm timer (R88, R102). -/
def ChainCmd.confirms : ChainCmd → Bool
  | .switch _ .equalise | .switch _ .float => true
  | _ => false

theorem State.startConfirm_ite (s : State) (b : BayNo) (c : ChainCmd) :
    s.startConfirm b c = if c.confirms then s.modBay b fun r => { r with confirm := .running s.site.confirmTime } else s := by
  unfold State.startConfirm ChainCmd.confirms
  cases c with
  | switch a t => cases t <;> rfl
  | _ => rfl

/-- The confirm timer after a command has been taken. -/
def State.confirmAfter (s : State) (c : ChainCmd) (old : Timer) : Timer :=
  if c.confirms then .running s.site.confirmTime else old

/-- What a step of a bay writes: the Frame Path, and of that bay the confirm timer and the second command. -/
structure BayStep (b : BayNo) (s t : State) : Prop where
  eq : t = { s with fp := t.fp, bays := t.bays }
  others : ∀ c, c ≠ b → t.bay c = s.bay c
  bay : t.bay b = { s.bay b with confirm := (t.bay b).confirm, second := (t.bay b).second }

theorem BayStep.refl (b : BayNo) (s : State) : BayStep b s s := ⟨rfl, fun _ _ => rfl, rfl⟩

theorem BayStep.trans {b : BayNo} {s t u : State} (h : BayStep b s t) (k : BayStep b t u) : BayStep b s u := by
  refine ⟨?_, fun c hc => (k.others c hc).trans (h.others c hc), ?_⟩
  · rw [k.eq, h.eq]
  · rw [k.bay, h.bay]

section
variable (b : BayNo) (s : State)

theorem BayStep.setFp (fp : FramePath) : BayStep b s { s with fp := fp } := ⟨rfl, fun _ _ => rfl, rfl⟩

theorem BayStep.modConfirm (timer : Timer) : BayStep b s (s.modBay b fun r => { r with confirm := timer }) :=
  ⟨rfl, fun c hc => s.bay_modBay_ne b c _ hc, by rw [s.bay_modBay]⟩

theorem BayStep.modSecond (d : Option ChainCmd) : BayStep b s (s.modBay b fun r => { r with second := d }) :=
  ⟨rfl, fun c hc => s.bay_modBay_ne b c _ hc, by rw [s.bay_modBay]⟩

theorem BayStep.startConfirm (c : ChainCmd) : BayStep b s (s.startConfirm b c) := by
  rw [State.startConfirm_ite]
  split
  · exact .modConfirm b s _
  · exact .refl b s

theorem BayStep.offerBayLast (c : ChainCmd) : BayStep b s (s.offerBayLast b c) := by
  obtain ⟨-, h⟩ | ⟨-, h⟩ := s.offerBayLast_cases b c <;> rw [h]
  · exact (BayStep.setFp b s _).trans (.startConfirm b _ c)
  · exact .setFp b s _

theorem BayStep.bayTaken (c : ChainCmd) : BayStep b s (s.bayTaken b c) := by
  unfold State.bayTaken
  split
  · exact .startConfirm b s c
  · exact ((BayStep.startConfirm b s c).trans (.modSecond b _ none)).trans (.offerBayLast b _ _)

theorem BayStep.beginStep (c : ChainCmd) (d : Option ChainCmd) : BayStep b s (s.beginStep b c d) := by
  have hbegun : BayStep b s ((s.withdraw (.bay b)).modBay b fun r => { r with second := d }) :=
    (BayStep.setFp b s _).trans (.modSecond b _ d)
  unfold State.beginStep
  dsimp only
  split
  · exact (hbegun.trans (.setFp b _ _)).trans (.bayTaken b _ c)
  · exact hbegun.trans (.setFp b _ _)

end

section
variable {b : BayNo} {s t : State}

theorem BayStep.str (h : BayStep b s t) (i : StringNo) : t.str i = s.str i := by
  have : t.strings = s.strings := by rw [h.eq]
  unfold State.str
  rw [this]

theorem BayStep.site (h : BayStep b s t) : t.site = s.site := by rw [h.eq]
theorem BayStep.clock (h : BayStep b s t) : t.clock = s.clock := by rw [h.eq]
theorem BayStep.profiles (h : BayStep b s t) : t.profiles = s.profiles := by rw [h.eq]
theorem BayStep.gas (h : BayStep b s t) : t.gas = s.gas := by rw [h.eq]
theorem BayStep.mgmt (h : BayStep b s t) : t.mgmt = s.mgmt := by rw [h.eq]
theorem BayStep.holds (h : BayStep b s t) : t.holds = s.holds := by rw [h.eq]
theorem BayStep.requests (h : BayStep b s t) : t.requests = s.requests := by rw [h.eq]
theorem BayStep.water (h : BayStep b s t) : t.water = s.water := by rw [h.eq]
theorem BayStep.evalDue (h : BayStep b s t) : t.evalDue = s.evalDue := by rw [h.eq]

end

/-! ### What a step sends -/

/-- The offers that wait of other activities than this bay's. -/
def State.offersBut (s : State) (b : BayNo) : List Offer := s.fp.offers.filter (·.activity ≠ .bay b)

/-- With the bay's own offer withdrawn, the chain-local queue takes a command at once. -/
def State.stepRoom (s : State) (b : BayNo) : Prop := s.offersBut b = [] ∧ s.fp.chain.localQ.length < 8

/-- The chain port after the taking of a command. -/
def State.sent (s : State) (c : ChainCmd) : PortState := s.fp.chain.pushLocal (cmdFrame s.own c)

/-- The state in which a step makes its first offer. -/
def State.begun (s : State) (b : BayNo) (d : Option ChainCmd) : State :=
  (s.withdraw (.bay b)).modBay b fun r => { r with second := d }

theorem State.begun_bay (s : State) (b : BayNo) (d : Option ChainCmd) : (s.begun b d).bay b = { s.bay b with second := d } :=
  (s.withdraw (.bay b)).bay_modBay b _

theorem State.begun_offerRoom (s : State) (b : BayNo) (d : Option ChainCmd) :
    (s.begun b d).offerRoom = true ↔ s.stepRoom b := State.offerRoom_iff _

theorem State.beginStep_begun (s : State) (b : BayNo) (c : ChainCmd) (d : Option ChainCmd) :
    s.beginStep b c d =
      if (s.begun b d).offerRoom then ((s.begun b d).takeCmd c).bayTaken b c else (s.begun b d).waitOffer (.bay b) c := rfl

section
variable {s : State} {b : BayNo}

/-- A step whose first command must wait. -/
theorem State.beginStep_waits (h : ¬s.stepRoom b) (c : ChainCmd) (d : Option ChainCmd) :
    (s.beginStep b c d).fp = { s.fp with offers := s.offersBut b ++ [⟨.bay b, c⟩] } ∧
      (s.beginStep b c d).bay b = { s.bay b with second := d } := by
  rw [State.beginStep_begun, if_neg ((s.begun_offerRoom b d).not.2 h)]
  exact ⟨rfl, s.begun_bay b d⟩

theorem State.bay_startConfirm (t : State) (b : BayNo) (c : ChainCmd) :
    (t.startConfirm b c).bay b = { t.bay b with confirm := t.confirmAfter c (t.bay b).confirm } := by
  rw [State.startConfirm_ite]
  unfold State.confirmAfter
  split
  · rw [t.bay_modBay]
  · rfl

theorem State.fp_startConfirm (t : State) (b : BayNo) (c : ChainCmd) : (t.startConfirm b c).fp = t.fp := by
  rw [State.startConfirm_eq]

/-- A step of one command that is taken at once. -/
theorem State.beginStep_one (h : s.stepRoom b) (c : ChainCmd) :
    (s.beginStep b c none).fp = { s.fp with offers := [], chain := s.sent c } ∧
      (s.beginStep b c none).bay b = { s.bay b with second := none, confirm := s.confirmAfter c (s.bay b).confirm } := by
  have hsecond : (((s.begun b none).takeCmd c).bay b).second = none :=
    congrArg Bay.second (s.begun_bay b none)
  have htaken : ((s.begun b none).takeCmd c).bayTaken b c = ((s.begun b none).takeCmd c).startConfirm b c := by
    unfold State.bayTaken
    rw [hsecond]
  rw [State.beginStep_begun, if_pos ((s.begun_offerRoom b none).2 h), htaken, State.bay_startConfirm, State.fp_startConfirm]
  refine ⟨?_, ?_⟩
  · have : ((s.begun b none).takeCmd c).fp = { s.fp with offers := s.offersBut b, chain := s.sent c } := rfl
    rw [this, h.1]
  · have : ((s.begun b none).takeCmd c).bay b = { s.bay b with second := none } := s.begun_bay b none
    rw [this]
    rfl

/-- The second command of a step, offered as the first is taken. -/
theorem State.beginStep_two_eq (h : s.stepRoom b) {c : ChainCmd} (quiet : c.confirms = false) (d : ChainCmd) :
    ∃ u : State, s.beginStep b c (some d) = u.offerBayLast b d ∧ u.fp = { s.fp with offers := [], chain := s.sent c } ∧
      u.own = s.own ∧ u.site = s.site ∧ u.bay b = { s.bay b with second := none } := by
  have hsecond : (((s.begun b (some d)).takeCmd c).bay b).second = some d :=
    congrArg Bay.second (s.begun_bay b (some d))
  have hstart : ((s.begun b (some d)).takeCmd c).startConfirm b c = (s.begun b (some d)).takeCmd c := by
    rw [State.startConfirm_ite, quiet, if_neg Bool.false_ne_true]
  have htaken : ((s.begun b (some d)).takeCmd c).bayTaken b c =
      (((s.begun b (some d)).takeCmd c).modBay b fun r => { r with second := none }).offerBayLast b d := by
    unfold State.bayTaken
    simp only [hsecond, hstart]
  refine ⟨((s.begun b (some d)).takeCmd c).modBay b fun r => { r with second := none }, ?_, ?_, rfl, rfl, ?_⟩
  · rw [State.beginStep_begun, if_pos ((s.begun_offerRoom b (some d)).2 h), htaken]
  · have : ((s.begun b (some d)).takeCmd c).fp = { s.fp with offers := s.offersBut b, chain := s.sent c } := rfl
    exact this.trans (by rw [h.1])
  · rw [State.bay_modBay]
    have : ((s.begun b (some d)).takeCmd c).bay b = { s.bay b with second := some d } := s.begun_bay b (some d)
    rw [this]

/-- A step of two commands that are both taken at once. -/
theorem State.beginStep_two (h : s.stepRoom b) {c : ChainCmd} (quiet : c.confirms = false) (d : ChainCmd)
    (room : (s.sent c).localQ.length < 8) :
    (s.beginStep b c (some d)).fp = { s.fp with offers := [], chain := (s.sent c).pushLocal (cmdFrame s.own d) } ∧
      (s.beginStep b c (some d)).bay b =
        { s.bay b with second := none, confirm := s.confirmAfter d (s.bay b).confirm } := by
  obtain ⟨u, heq, hfp, hown, hsite, hbay⟩ := State.beginStep_two_eq h quiet d
  have hroom : u.offerRoom = true := (State.offerRoom_iff u).2 (by rw [hfp]; exact ⟨rfl, room⟩)
  have hlast : u.offerBayLast b d = (u.takeCmd d).startConfirm b d := if_pos hroom
  rw [heq, hlast, State.bay_startConfirm, State.fp_startConfirm]
  refine ⟨?_, ?_⟩
  · have : (u.takeCmd d).fp = { u.fp with chain := u.fp.chain.pushLocal (cmdFrame u.own d) } := rfl
    rw [this, hfp, hown]
  · have hb : (u.takeCmd d).bay b = u.bay b := rfl
    have hc : ∀ old, (u.takeCmd d).confirmAfter d old = s.confirmAfter d old := fun old => by
      unfold State.confirmAfter
      rw [← hsite]
      rfl
    rw [hb, hc, hbay]

/-- A step of two commands, the second of which must wait. -/
theorem State.beginStep_half (h : s.stepRoom b) {c : ChainCmd} (quiet : c.confirms = false) (d : ChainCmd)
    (full : 8 ≤ (s.sent c).localQ.length) :
    (s.beginStep b c (some d)).fp = { s.fp with offers := [⟨.bay b, d⟩], chain := s.sent c } ∧
      (s.beginStep b c (some d)).bay b = { s.bay b with second := none } := by
  obtain ⟨u, heq, hfp, -, -, hbay⟩ := State.beginStep_two_eq h quiet d
  have hroom : ¬u.offerRoom = true := (State.offerRoom_iff u).not.2 (by rw [hfp]; exact fun hr => absurd hr.2 full.not_gt)
  have hlast : u.offerBayLast b d = u.waitOffer (.bay b) d := if_neg hroom
  rw [heq, hlast]
  refine ⟨?_, hbay⟩
  have : (u.waitOffer (.bay b) d).fp = { u.fp with offers := u.fp.offers ++ [⟨.bay b, d⟩] } := rfl
  rw [this, hfp]
  rfl

/-- A queue that takes a command with two slots free has one left. -/
theorem State.sent_length (s : State) (c : ChainCmd) : (s.sent c).localQ.length ≤ s.fp.chain.localQ.length + 1 :=
  (PortState.pushLocal_bounds _ _).1

end

/-! ## What the figures of a string are computed from (R29, R48 to R57) -/

/-- The records that the readings of a string are taken from are the same. -/
structure SameReadings (i : StringNo) (s t : State) : Prop where
  cells : (t.str i).cells = (s.str i).cells
  cfg : (t.str i).cfg = (s.str i).cfg
  clock : t.clock = s.clock
  site : t.site = s.site
  profiles : t.profiles = s.profiles

section
variable {i : StringNo} {s t : State}

theorem SameReadings.refl (i : StringNo) (s : State) : SameReadings i s s := ⟨rfl, rfl, rfl, rfl, rfl⟩

theorem SameReadings.trans {u : State} (h : SameReadings i s t) (k : SameReadings i t u) : SameReadings i s u :=
  ⟨k.cells.trans h.cells, k.cfg.trans h.cfg, k.clock.trans h.clock, k.site.trans h.site, k.profiles.trans h.profiles⟩

theorem SameReadings.cell (h : SameReadings i s t) (p : Position) : t.cell i p = s.cell i p := by
  unfold State.cell StringRec.cell
  rw [h.cells]

theorem SameReadings.fresh (h : SameReadings i s t) (p : Position) : t.fresh i p = s.fresh i p := by
  unfold State.fresh State.fittedPos State.second
  rw [h.cell, h.cfg, h.clock, h.site]

theorem SameReadings.freshCells (h : SameReadings i s t) : t.freshCells i = s.freshCells i := by
  unfold State.freshCells
  rw [funext h.fresh, funext h.cell]

theorem SameReadings.spreadOf (h : SameReadings i s t) : t.spreadOf i = s.spreadOf i := by
  unfold State.spreadOf
  rw [h.freshCells, h.cfg]

theorem SameReadings.profile (h : SameReadings i s t) : t.profile i = s.profile i := by
  unfold State.profile
  simp only [h.profiles, h.cfg]

theorem SameReadings.heldOf (h : SameReadings i s t) : t.heldOf i = s.heldOf i := by
  unfold State.heldOf
  rw [h.profile, h.cfg]

theorem SameReadings.meanOf (h : SameReadings i s t)
    (mean : s.freshCells i = [] → (t.str i).lastMean = (s.str i).lastMean) : t.meanOf i = s.meanOf i := by
  unfold State.meanOf
  rw [h.freshCells]
  cases hf : s.freshCells i with
  | nil => rw [mean hf]
  | cons => rfl

theorem SameReadings.setpointOf (h : SameReadings i s t)
    (mean : s.freshCells i = [] → (t.str i).lastMean = (s.str i).lastMean) : t.setpointOf i = s.setpointOf i := by
  unfold State.setpointOf
  rw [h.profile, h.meanOf mean, h.cfg]

/-- Bays, requests, rounds, gas, holds and queues are no part of a reading. -/
theorem SameReadings.of_strings (strings : t.strings = s.strings) (clock : t.clock = s.clock) (site : t.site = s.site)
    (profiles : t.profiles = s.profiles) : SameReadings i s t :=
  ⟨by unfold State.str; rw [strings], by unfold State.str; rw [strings], clock, site, profiles⟩

/-- An update of a string that leaves its cells and configuration. -/
theorem SameReadings.modStr (j : StringNo) (f : StringRec → StringRec) (h : ∀ r, (f r).cells = r.cells ∧ (f r).cfg = r.cfg) :
    SameReadings i s (s.modStr j f) := by
  refine ⟨?_, ?_, rfl, rfl, rfl⟩ <;> by_cases e : i = j
  · subst e; rw [s.str_modStr]; exact (h _).1
  · rw [s.str_modStr_ne j i f e]
  · subst e; rw [s.str_modStr]; exact (h _).2
  · rw [s.str_modStr_ne j i f e]

theorem SameReadings.modBay (b : BayNo) (f : Bay → Bay) : SameReadings i s (s.modBay b f) := .of_strings rfl rfl rfl rfl

theorem BayStep.sameReadings {b : BayNo} (h : BayStep b s t) : SameReadings i s t :=
  .of_strings (by rw [h.eq]) h.clock h.site h.profiles

end

/-- The last mean of a string, and nothing else, may be noted (R49). -/
theorem State.noteMean_modStr (s : State) (i : StringNo) :
    s.noteMean i = s.modStr i fun r => { r with lastMean := if s.freshCells i = [] then r.lastMean else some (s.meanOf i) } := by
  unfold State.noteMean
  cases h : s.freshCells i with
  | nil =>
    simp only [if_true]
    unfold State.modStr State.setStr State.str
    rw [tset_get]
  | cons c l => simp

theorem SameReadings.noteMean (i : StringNo) (s : State) : SameReadings i s (s.noteMean i) := by
  rw [State.noteMean_modStr]
  exact .modStr i _ fun _ => ⟨rfl, rfl⟩

theorem State.noteMean_lastMean_of_stale {s : State} {i : StringNo} (h : s.freshCells i = []) :
    ((s.noteMean i).str i).lastMean = (s.str i).lastMean := by
  rw [State.noteMean_of_stale h]

/-! ## A sweep that completes (R42, R88) -/

/-- The bay and the string as a completed sweep leaves them before the transfer is commanded. -/
def State.baselineTaken (s : State) (b : BayNo) (i : StringNo) : State :=
  ((((s.modBay b fun r => { r with startSpread := s.spreadOf i }).notePeak b i).newSetpoint b i).modStr i
    fun r => { r with state := .transferOut })

theorem State.sweepComplete_baseline {s : State} {b : BayNo} {i : StringNo} (state : (s.str i).state = .baseline)
    (bay : (s.str i).bay = some b) : s.sweepComplete i = (s.baselineTaken b i).startStep b i := by
  unfold State.sweepComplete
  rw [state, bay]
  rfl

theorem State.sweepComplete_ignored {s : State} {i : StringNo} (h : (s.str i).state = .baseline → (s.str i).bay = none) :
    s.sweepComplete i = s := by
  unfold State.sweepComplete
  split
  · rename_i hstate hbay
    rw [h hstate] at hbay
    cases hbay
  · rfl

section
variable (s : State) (b : BayNo) (i : StringNo)

theorem State.baselineTaken_bay : (s.baselineTaken b i).bay b =
    { s.bay b with startSpread := s.spreadOf i, peak := newPeak (s.bay b).peak (maxTemp (s.freshCells i)),
                   setpoint := s.setpointOf i, eqSetpoint := s.setpointOf i } := by
  have hreads : SameReadings i s ((s.modBay b fun r => { r with startSpread := s.spreadOf i }).notePeak b i) :=
    .of_strings rfl rfl rfl rfl
  have hset := hreads.setpointOf fun _ => rfl
  have hfirst : (s.modBay b fun r => { r with startSpread := s.spreadOf i }).freshCells i = s.freshCells i :=
    (SameReadings.modBay b _).freshCells
  have hnote : ∀ (t : State), (t.noteMean i).bay b = t.bay b := fun t => by rw [State.noteMean_modStr]; rfl
  unfold State.baselineTaken State.newSetpoint
  have hstr : ∀ (t : State) (f : StringRec → StringRec), (t.modStr i f).bay b = t.bay b := fun _ _ => rfl
  rw [hstr, State.bay_modBay, hnote, hset]
  unfold State.notePeak
  rw [State.bay_modBay, hfirst, State.bay_modBay]

theorem State.baselineTaken_bay_ne {c : BayNo} (h : c ≠ b) : (s.baselineTaken b i).bay c = s.bay c := by
  have hnote : ∀ (t : State), (t.noteMean i).bay c = t.bay c := fun t => by rw [State.noteMean_modStr]; rfl
  have hstr : ∀ (t : State) (f : StringRec → StringRec), (t.modStr i f).bay c = t.bay c := fun _ _ => rfl
  unfold State.baselineTaken State.newSetpoint State.notePeak
  rw [hstr, State.bay_modBay_ne _ b c _ h, hnote, State.bay_modBay_ne _ b c _ h, State.bay_modBay_ne _ b c _ h]

theorem State.baselineTaken_str : (s.baselineTaken b i).str i =
    { s.str i with state := .transferOut,
                   lastMean := if s.freshCells i = [] then (s.str i).lastMean else some (s.meanOf i) } := by
  have hreads : SameReadings i s ((s.modBay b fun r => { r with startSpread := s.spreadOf i }).notePeak b i) :=
    .of_strings rfl rfl rfl rfl
  have hbay : ∀ (t : State) (f : Bay → Bay), (t.modBay b f).str i = t.str i := fun _ _ => rfl
  unfold State.baselineTaken State.newSetpoint
  rw [State.str_modStr, hbay, State.noteMean_modStr, State.str_modStr, hreads.freshCells, hreads.meanOf fun _ => rfl]
  rfl

theorem State.baselineTaken_str_ne {j : StringNo} (h : j ≠ i) : (s.baselineTaken b i).str j = s.str j := by
  have hbay : ∀ (t : State) (f : Bay → Bay), (t.modBay b f).str j = t.str j := fun _ _ => rfl
  unfold State.baselineTaken State.newSetpoint State.notePeak
  rw [State.str_modStr_ne _ i j _ h, hbay, State.noteMean_modStr, State.str_modStr_ne _ i j _ h, hbay, hbay]

/-- A completed sweep writes strings and bays only. -/
theorem State.baselineTaken_eq : s.baselineTaken b i =
    { s with strings := (s.baselineTaken b i).strings, bays := (s.baselineTaken b i).bays } := by
  unfold State.baselineTaken State.newSetpoint
  rw [State.noteMean_modStr]
  rfl

theorem State.baselineTaken_sameReadings : SameReadings i s (s.baselineTaken b i) := by
  refine ⟨?_, ?_, ?_, ?_, ?_⟩
  · rw [State.baselineTaken_str]
  · rw [State.baselineTaken_str]
  all_goals rw [State.baselineTaken_eq]

end

/-- The transfer is commanded: the charger ON at the new setpoint, then the switch to EQUALISE. -/
theorem State.startStep_eq (s : State) (b : BayNo) (i : StringNo) :
    (s.baselineTaken b i).startStep b i = (s.baselineTaken b i).beginStep b
      (.chargerOn s.site.charger b (s.setpointOf i) ((s.bay b).limit / 100))
      (some (.switch (s.str i).cfg.switch .equalise)) := by
  have hon : (s.baselineTaken b i).chargerOn b =
      .chargerOn s.site.charger b (s.setpointOf i) ((s.bay b).limit / 100) := by
    unfold State.chargerOn
    rw [State.baselineTaken_bay, (s.baselineTaken_sameReadings b i).site]
  unfold State.startStep
  rw [hon, (s.baselineTaken_sameReadings b i).cfg]

end Sys2Proof.Machine
end

section
/-! PROOF. The layer of write sets: what the fan control, the start of a sweep and an evaluation leave as it was (R41, R75 to R79,
R120). -/

namespace Sys2Proof.Machine

open Sys2Proof

/-! ## The fan control (R120, R121) -/

/-- What the fan control writes: the Frame Path, the fan with its run-on, and the fan's own holds. -/
structure FanMove (s t : State) : Prop where
  eq : t = { s with fp := t.fp, gas := t.gas, holds := t.holds }
  gas : t.gas = { s.gas with fan := t.gas.fan, runOn := t.gas.runOn }
  holds : ∀ h : Hold, h.holder ≠ .fan → (h ∈ t.holds ↔ h ∈ s.holds)

theorem FanMove.refl (s : State) : FanMove s s := ⟨rfl, rfl, fun _ _ => Iff.rfl⟩

theorem FanMove.trans {s t u : State} (h : FanMove s t) (k : FanMove t u) : FanMove s u := by
  refine ⟨?_, ?_, fun x hx => (k.holds x hx).trans (h.holds x hx)⟩
  · rw [k.eq, h.eq]
  · rw [k.gas, h.gas]

section
variable (s : State)

theorem FanMove.setFp (fp : FramePath) : FanMove s { s with fp := fp } := ⟨rfl, rfl, fun _ _ => Iff.rfl⟩

theorem FanMove.setFan (fan : FanState) (runOn : Timer) : FanMove s (s.modGas fun g => { g with fan := fan, runOn := runOn }) :=
  ⟨rfl, rfl, fun _ _ => Iff.rfl⟩

theorem FanMove.takeHold (a : Byte) : FanMove s (s.takeHold a .fan) := by
  cases held : s.holderOf a with
  | some h => rw [s.takeHold_held a .fan h held]; exact .refl s
  | none =>
    have heq := s.takeHold_eq a .fan
    have hholds : (s.takeHold a .fan).holds = insertHold ⟨a, .fan⟩ s.holds := by
      rw [s.takeHold_free a .fan held, State.purge_fp]
    refine ⟨by rw [heq], by rw [heq], fun h hh => ?_⟩
    rw [hholds, mem_insertHold]
    exact or_iff_right fun e => hh (by rw [e])

theorem FanMove.releaseHold (a : Byte) : FanMove s (s.releaseHold a .fan) := by
  refine ⟨rfl, rfl, fun h hh => ?_⟩
  rw [State.releaseHold_holds, List.mem_filter, decide_eq_true_eq]
  exact and_iff_left fun e => hh (by rw [e])

theorem FanMove.offerFan (on : Bool) : FanMove s (s.offerFan on) := by
  unfold State.offerFan
  split <;> exact .setFp s _

theorem FanMove.fanStart : FanMove s s.fanStart :=
  (((FanMove.setFan s .on .stopped).trans (.setFp _ _)).trans (.takeHold _ _)).trans (.offerFan _ true)

theorem FanMove.fanStop : FanMove s s.fanStop :=
  (((FanMove.setFan s .off .stopped).trans (.setFp _ _)).trans (.offerFan _ false)).trans (.releaseHold _ _)

theorem FanMove.needArises : FanMove s s.needArises := by
  unfold State.needArises
  split
  · exact .fanStart s
  · exact .refl s
  · exact .setFan s _ _

theorem FanMove.needEnds : FanMove s s.needEnds := by
  unfold State.needEnds
  split
  · split
    · exact .fanStop s
    · exact .setFan s _ _
  · exact .refl s

theorem FanMove.fanFollow (before : Bool) : FanMove s (s.fanFollow before) := by
  unfold State.fanFollow
  split
  · exact .refl s
  · split
    · exact .needEnds s
    · split
      · exact .needArises s
      · exact .refl s

/-- The fan follows a string that leaves the bay states. -/
theorem FanMove.noteBayExit : FanMove (s.modGas fun g => { g with bayStrings := g.bayStrings - 1 }) s.noteBayExit :=
  .fanFollow _ _

theorem FanMove.noteBayEntry : FanMove (s.modGas fun g => { g with bayStrings := g.bayStrings + 1 }) s.noteBayEntry :=
  .fanFollow _ _

end

section
variable {s t : State}

theorem FanMove.str (h : FanMove s t) (i : StringNo) : t.str i = s.str i := by
  have : t.strings = s.strings := by rw [h.eq]
  unfold State.str
  rw [this]

theorem FanMove.bay (h : FanMove s t) (b : BayNo) : t.bay b = s.bay b := by
  have : t.bays = s.bays := by rw [h.eq]
  unfold State.bay
  rw [this]

theorem FanMove.bays (h : FanMove s t) : t.bays = s.bays := by rw [h.eq]
theorem FanMove.strings (h : FanMove s t) : t.strings = s.strings := by rw [h.eq]
theorem FanMove.mgmt (h : FanMove s t) : t.mgmt = s.mgmt := by rw [h.eq]
theorem FanMove.requests (h : FanMove s t) : t.requests = s.requests := by rw [h.eq]
theorem FanMove.evalDue (h : FanMove s t) : t.evalDue = s.evalDue := by rw [h.eq]
theorem FanMove.water (h : FanMove s t) : t.water = s.water := by rw [h.eq]
theorem FanMove.site (h : FanMove s t) : t.site = s.site := by rw [h.eq]

end

/-- A need that arises takes holds and releases none. -/
theorem State.needArises_holds (s : State) : s.holds ⊆ s.needArises.holds := by
  unfold State.needArises
  split
  · intro h hh
    have hoffer : ∀ u : State, (u.offerFan true).holds = u.holds := fun u => by
      unfold State.offerFan; split <;> rfl
    unfold State.fanStart
    rw [hoffer]
    cases held : ((s.modGas fun g => { g with fan := .on, runOn := .stopped }).withdraw .fan).holderOf s.site.fan with
    | some x => rw [State.takeHold_held _ _ _ x held]; exact hh
    | none =>
      rw [State.takeHold_free _ _ _ held, State.purge_fp]
      exact (mem_insertHold _ _ _).2 (.inr hh)
  · exact fun _ hh => hh
  · exact fun _ hh => hh

/-- A string that enters the bay states brings the need, and never its end. -/
theorem State.noteBayEntry_holds (s : State) : s.holds ⊆ s.noteBayEntry.holds := by
  have need : (s.modGas fun g => { g with bayStrings := g.bayStrings + 1 }).gas.need = true := by simp [Gas.need]
  unfold State.noteBayEntry State.fanFollow
  rw [need]
  simp only [Bool.not_true, Bool.and_false, Bool.false_eq_true, if_false, Bool.and_true]
  split
  · exact fun _ hh => hh
  · split
    · exact State.needArises_holds (s.modGas fun g => { g with bayStrings := g.bayStrings + 1 })
    · exact fun _ hh => hh

/-! ## Sweeps (R41, R42) -/

/-- What the start of a sweep, or its completion, writes: the Frame Path; of the string its sweep and, as it leaves BASELINE, its
state and last mean; and then its bay. -/
structure SweepStep (i : StringNo) (s t : State) : Prop where
  eq : t = { s with fp := t.fp, strings := t.strings, bays := t.bays }
  others : ∀ j, j ≠ i → t.str j = s.str j
  str : t.str i = { s.str i with state := (t.str i).state, lastMean := (t.str i).lastMean, sweep := (t.str i).sweep }
  state : (t.str i).state = (s.str i).state ∨ (s.str i).state = .baseline ∧ (t.str i).state = .transferOut
  bays : ∀ c, (s.str i).bay ≠ some c → t.bay c = s.bay c
  link : ∀ c, (t.bay c).link = (s.bay c).link ∧ (t.bay c).reduced = (s.bay c).reduced
  ignored : (s.str i).state ≠ .baseline → t.bays = s.bays ∧ (t.str i).lastMean = (s.str i).lastMean

theorem SweepStep.refl (i : StringNo) (s : State) : SweepStep i s s :=
  ⟨rfl, fun _ _ => rfl, rfl, .inl rfl, fun _ _ => rfl, fun _ => ⟨rfl, rfl⟩, fun _ => ⟨rfl, rfl⟩⟩

theorem SweepStep.bayField {i : StringNo} {s t : State} (h : SweepStep i s t) : (t.str i).bay = (s.str i).bay := by rw [h.str]

theorem SweepStep.trans {i : StringNo} {s t u : State} (h : SweepStep i s t) (k : SweepStep i t u) : SweepStep i s u := by
  refine ⟨?_, fun j hj => (k.others j hj).trans (h.others j hj), ?_, ?_, fun c hc => ?_,
    fun c => ⟨(k.link c).1.trans (h.link c).1, (k.link c).2.trans (h.link c).2⟩, fun hs => ?_⟩
  · rw [k.eq, h.eq]
  · rw [k.str, h.str]
  · obtain hk | ⟨hk, hu⟩ := k.state
    · rw [hk]; exact h.state
    · obtain hh | ⟨-, hh⟩ := h.state
      · exact .inr ⟨hh ▸ hk, hu⟩
      · rw [hh] at hk; cases hk
  · exact (k.bays c (by rw [h.bayField]; exact hc)).trans (h.bays c hc)
  · have ht : (t.str i).state ≠ .baseline := by
      obtain hh | ⟨hh, -⟩ := h.state
      · rw [hh]; exact hs
      · exact absurd hh hs
    exact ⟨(k.ignored ht).1.trans (h.ignored hs).1, (k.ignored ht).2.trans (h.ignored hs).2⟩

section
variable (i : StringNo) (s : State)

theorem SweepStep.setFp (fp : FramePath) : SweepStep i s { s with fp := fp } :=
  ⟨rfl, fun _ _ => rfl, rfl, .inl rfl, fun _ _ => rfl, fun _ => ⟨rfl, rfl⟩, fun _ => ⟨rfl, rfl⟩⟩

theorem SweepStep.setSweep (f : StringRec → Sweep) : SweepStep i s (s.modStr i fun r => { r with sweep := f r }) :=
  ⟨rfl, fun j hj => s.str_modStr_ne i j _ hj, by rw [s.str_modStr], .inl (by rw [s.str_modStr]), fun _ _ => rfl,
    fun _ => ⟨rfl, rfl⟩, fun _ => ⟨rfl, by rw [s.str_modStr]⟩⟩

theorem SweepStep.sweepComplete : SweepStep i s (s.sweepComplete i) := by
  by_cases state : (s.str i).state = .baseline
  · cases bay : (s.str i).bay with
    | none => rw [State.sweepComplete_ignored fun _ => bay]; exact .refl i s
    | some b =>
      have hstep : BayStep b (s.baselineTaken b i) (s.sweepComplete i) := by
        rw [State.sweepComplete_baseline state bay]; exact .beginStep b _ _ _
      refine ⟨?_, fun j hj => ?_, ?_, .inr ⟨state, ?_⟩, fun c hc => ?_, fun c => ?_, fun h => absurd state h⟩
      · rw [hstep.eq, s.baselineTaken_eq b i]
      · rw [hstep.str, s.baselineTaken_str_ne b i hj]
      · rw [hstep.str, s.baselineTaken_str]
      · rw [hstep.str, s.baselineTaken_str]
      · have hcb : c ≠ b := fun e => hc (by rw [bay, e])
        rw [hstep.others c hcb, s.baselineTaken_bay_ne b i hcb]
      · by_cases hcb : c = b
        · subst hcb
          rw [hstep.bay, s.baselineTaken_bay]
          exact ⟨rfl, rfl⟩
        · rw [hstep.others c hcb, s.baselineTaken_bay_ne b i hcb]
          exact ⟨rfl, rfl⟩
  · rw [State.sweepComplete_ignored fun h => absurd h state]
    exact .refl i s

theorem SweepStep.sweepAsk : ∀ (n : Nat) (s : State), SweepStep i s (s.sweepAsk n i)
  | 0, s => .refl i s
  | n + 1, s => by
    unfold State.sweepAsk
    split
    · exact .refl i s
    · split
      · exact ((SweepStep.setFp i s _).trans (.setSweep i _ _)).trans (.sweepAsk n _)
      · exact .setFp i s _

theorem SweepStep.sweepNext : SweepStep i s (s.sweepNext i) := .sweepAsk i _ s

theorem SweepStep.startSweep : SweepStep i s (s.startSweep i) := by
  unfold State.startSweep
  split
  · exact .sweepComplete i s
  · exact (SweepStep.setSweep i s _).trans (.sweepNext i _)

theorem SweepStep.baselineSweep : SweepStep i s (s.baselineSweep i) := by
  unfold State.baselineSweep
  split
  · exact .refl i s
  · exact .startSweep i s

end

/-! ## Evaluations (R75 to R79) -/

/-- What a grant leaves: it takes up strings in FLOAT that have an entry, bays that are FREE, the round, and holds; the list loses
entries and gains none. -/
structure Grants (s t : State) : Prop where
  evalDue : t.evalDue = s.evalDue
  mgmt : t.mgmt = s.mgmt
  water : t.water = { s.water with round := t.water.round }
  gas : t.gas = { s.gas with bayStrings := t.gas.bayStrings, fan := t.gas.fan, runOn := t.gas.runOn }
  holds : s.holds ⊆ t.holds
  requests : t.requests ⊆ s.requests
  unlisted : ∀ i, (∀ x ∈ s.requests, x.string ≠ i) → t.str i = s.str i
  working : ∀ i, (s.str i).state ≠ .float → t.str i = s.str i
  inUse : ∀ b, (s.bay b).state ≠ .free → t.bay b = s.bay b

theorem Grants.refl (s : State) : Grants s s :=
  ⟨rfl, rfl, rfl, rfl, fun _ h => h, fun _ h => h, fun _ _ => rfl, fun _ _ => rfl, fun _ _ => rfl⟩

theorem Grants.trans {s t u : State} (h : Grants s t) (k : Grants t u) : Grants s u := by
  refine ⟨k.evalDue.trans h.evalDue, k.mgmt.trans h.mgmt, ?_, ?_, fun _ hx => k.holds (h.holds hx),
    fun _ hx => h.requests (k.requests hx), fun i hi => ?_, fun i hi => ?_, fun b hb => ?_⟩
  · rw [k.water, h.water]
  · rw [k.gas, h.gas]
  · exact (k.unlisted i fun x hx => hi x (h.requests hx)).trans (h.unlisted i hi)
  · exact (k.working i (by rw [h.working i hi]; exact hi)).trans (h.working i hi)
  · exact (k.inUse b (by rw [h.inUse b hb]; exact hb)).trans (h.inUse b hb)

theorem State.takeHold_subset (s : State) (a : Byte) (h : Holder) : s.holds ⊆ (s.takeHold a h).holds := by
  intro x hx
  cases held : s.holderOf a with
  | some h' => rw [s.takeHold_held a h h' held]; exact hx
  | none => rw [s.takeHold_holds a h held]; exact (mem_insertHold _ _ _).2 (.inr hx)

theorem State.holderOf_isSome (s : State) (a : Byte) : (s.holderOf a).isSome = true ↔ ∃ h ∈ s.holds, h.addr = a := by
  rw [← not_iff_not, Bool.not_eq_true, Option.isSome_eq_false_iff, Option.isNone_iff_eq_none, State.holderOf_eq_none]
  simp

theorem State.takeHold_isSome (s : State) (a : Byte) (h : Holder) : ((s.takeHold a h).holderOf a).isSome = true := by
  cases held : s.holderOf a with
  | some h' => rw [s.takeHold_held a h h' held, held]; rfl
  | none =>
    rw [State.holderOf_isSome, s.takeHold_holds a h held]
    exact ⟨⟨a, h⟩, (mem_insertHold _ _ _).2 (.inl rfl), rfl⟩

theorem State.holderOf_isSome_of_subset {s t : State} (h : s.holds ⊆ t.holds) {a : Byte} (held : (s.holderOf a).isSome = true) :
    (t.holderOf a).isSome = true := by
  obtain ⟨x, hx, ha⟩ := (s.holderOf_isSome a).1 held
  exact (t.holderOf_isSome a).2 ⟨x, h hx, ha⟩

theorem State.takeTwo_subset (s : State) (x y : Hold) : s.holds ⊆ (s.takeTwo x y).holds := by
  unfold State.takeTwo
  split <;> exact List.Subset.trans (State.takeHold_subset _ _ _) (State.takeHold_subset _ _ _)

/-- Both addresses are held after the takes. -/
theorem State.takeTwo_isSome (s : State) (x y : Hold) :
    ((s.takeTwo x y).holderOf x.addr).isSome = true ∧ ((s.takeTwo x y).holderOf y.addr).isSome = true := by
  have both : ∀ x y : Hold, (((s.takeHold x.addr x.holder).takeHold y.addr y.holder).holderOf x.addr).isSome = true ∧
      (((s.takeHold x.addr x.holder).takeHold y.addr y.holder).holderOf y.addr).isSome = true := fun x y =>
    ⟨State.holderOf_isSome_of_subset (State.takeHold_subset _ y.addr y.holder) (s.takeHold_isSome x.addr x.holder),
      State.takeHold_isSome _ y.addr y.holder⟩
  unfold State.takeTwo
  split
  · exact (both y x).symm
  · exact both x y

end Sys2Proof.Machine
end

section
/-! PROOF. Evaluations (R72 to R79, R87, R130): the order of the picks, what a grant makes of its string, bay and round, and the
obligation on the evaluation. -/

namespace Sys2Proof.Machine

open Sys2Proof

/-! ## The order of a pick (R76) -/

/-- No key of R76 puts `x` before `e`. -/
def Entry.firstOf (e x : Entry) : Prop :=
  x.level < e.level ∨ (x.level = e.level ∧ e.arrival < x.arrival) ∨
    (x.level = e.level ∧ x.arrival = e.arrival ∧ e.string ≤ x.string)

theorem Entry.firstOf_iff (e x : Entry) : e.firstOf x ↔ x.before e = false := by
  rw [← Bool.not_eq_true]
  simp only [Entry.firstOf, Entry.before, Bool.or_eq_true, Bool.and_eq_true, decide_eq_true_eq, Fin.lt_def, Fin.le_def]
  omega

theorem Entry.firstOf_refl (e : Entry) : e.firstOf e := .inr (.inr ⟨rfl, rfl, le_rfl⟩)

theorem Entry.firstOf_trans {a b c : Entry} (h : a.firstOf b) (k : b.firstOf c) : a.firstOf c := by
  simp only [Entry.firstOf, Fin.le_def] at *
  omega

theorem Entry.firstOf_of_before {a b : Entry} (h : a.before b = true) : a.firstOf b := by
  simp only [Entry.firstOf, Entry.before, Bool.or_eq_true, Bool.and_eq_true, decide_eq_true_eq, Fin.lt_def, Fin.le_def] at *
  omega

theorem foldl_before_first : ∀ (l : List Entry) (e : Entry), ∀ x ∈ e :: l,
    (l.foldl (fun best y => if y.before best then y else best) e).firstOf x
  | [], e, x, hx => by
    obtain rfl := List.mem_singleton.1 hx
    exact x.firstOf_refl
  | y :: l, e, x, hx => by
    rw [List.foldl_cons]
    have hbest : (if y.before e = true then y else e).firstOf e ∧ (if y.before e = true then y else e).firstOf y := by
      split
      · exact ⟨Entry.firstOf_of_before ‹_›, y.firstOf_refl⟩
      · exact ⟨e.firstOf_refl, (e.firstOf_iff y).2 (Bool.not_eq_true _ ▸ ‹_›)⟩
    have hfirst := foldl_before_first l (if y.before e = true then y else e)
    have hself := hfirst _ List.mem_cons_self
    obtain rfl | hx := List.mem_cons.1 hx
    · exact Entry.firstOf_trans hself hbest.1
    · obtain rfl | hx := List.mem_cons.1 hx
      · exact Entry.firstOf_trans hself hbest.2
      · exact hfirst x (List.mem_cons_of_mem _ hx)

theorem pick_first {l : List Entry} {e : Entry} (h : pick l = some e) : ∀ x ∈ l, e.firstOf x := by
  cases l with
  | nil => cases h
  | cons x l =>
    obtain rfl := Option.some.inj h
    exact foldl_before_first l x

theorem pick_eq_none (l : List Entry) : pick l = none ↔ l = [] := by cases l <;> simp [pick]

/-! ## What eligibility asks for (R73, R74, R130) -/

theorem State.anyOt_eq_false (s : State) (i : StringNo) :
    s.anyOt i = false ↔ ∀ p : Position, p.val < (s.str i).cfg.cellCount → (s.cell i p).ot.state = false := by
  simp [State.anyOt, State.fittedPos, mem_allPositions]

theorem State.equaliseReady_iff (s : State) (e : Entry) :
    s.equaliseReady e = true ↔ s.ceiling < e.level ∧ (s.str e.string).state = .float ∧
      (s.str e.string).presence = .present ∧
      (∀ p : Position, p.val < (s.str e.string).cfg.cellCount → (s.cell e.string p).ot.state = false) ∧
      ((s.str e.string).retryHold = none ∨ e.sources.management = true) ∧ s.gas.state = .normal ∧ s.site.charger ≠ 0 := by
  rw [← State.anyOt_eq_false]
  unfold State.equaliseReady State.inRetryHold
  simp only [Bool.and_eq_true, decide_eq_true_eq, Bool.not_eq_true', Bool.or_eq_true, Option.isSome_eq_false_iff,
    Option.isNone_iff_eq_none]
  tauto

theorem State.freeBayInUse_iff (s : State) (b : BayNo) :
    s.freeBayInUse = some b ↔ (s.bay b).state = .free ∧ (b = 0 ∨ (s.site.bays = 2 ∧ (s.bay 0).state ≠ .free)) := by
  refine ⟨State.freeBayInUse_spec, fun ⟨free, use⟩ => ?_⟩
  unfold State.freeBayInUse
  obtain rfl | ⟨two, busy⟩ := use
  · exact if_pos free
  · have hb : b = 1 := by
      match b with
      | 0 => exact absurd free busy
      | 1 => rfl
    subst hb
    rw [if_neg busy, if_pos ⟨two, free⟩]

theorem State.freeBayInUse_eq_none (s : State) :
    s.freeBayInUse = none ↔ (s.bay 0).state ≠ .free ∧ (s.site.bays = 2 → (s.bay 1).state ≠ .free) := by
  unfold State.freeBayInUse
  split
  · simp [*]
  · split <;> simp_all

theorem State.equaliseGrant_of_full {s : State} (h : s.freeBayInUse = none) (e : Entry) : s.equaliseGrant e = none := by
  unfold State.equaliseGrant
  rw [h]
  split <;> rfl

theorem State.fillListFor_sorted (s : State) (i : StringNo) (build : Build) : (s.fillListFor i build).Pairwise (· < ·) :=
  allPositions_sorted.filter _

theorem State.mem_fillListFor (s : State) (i : StringNo) (build : Build) (p : Position) :
    p ∈ s.fillListFor i build ↔
      p.val < (s.str i).cfg.cellCount ∧ (s.cell i p).binding ≠ none ∧ (s.cell i p).valveFault = false ∧
      (build = .full → (s.cell i p).level ≠ .fault) ∧ (build = .level → (s.cell i p).level = .low) := by
  unfold State.fillListFor State.fittedPos Cell.listed
  cases build <;> simp [mem_allPositions, Option.isSome_iff_ne_none, and_assoc]

theorem buildOf_cases (src : SourceSet) :
    ((src.management = true ∨ src.debt = true) → buildOf src = .full) ∧
      (¬(src.management = true ∨ src.debt = true) → buildOf src = .level) := by
  unfold buildOf
  constructor <;> intro h <;> simp_all

/-! ## An equalise grant (R87) -/

/-- What an equalise grant makes of its bay, its string and the Hold Set. -/
structure EqualiseGranted (i : StringNo) (b : BayNo) (limit : Nat) (reduced : Bool) (s t : State) : Prop where
  bay : (t.bay b).link = ⟨.busy, some i, limit⟩
  reduced : (t.bay b).reduced = reduced
  named : (t.str i).bay = some b
  jobCharge : (t.str i).jobCharge = 0
  startMinute : (t.str i).startMinute = s.minute
  state : (t.str i).state = .baseline ∨ (t.str i).state = .transferOut
  switchHeld : (t.holderOf (s.str i).cfg.switch).isSome = true
  chargerHeld : (t.holderOf s.site.charger).isSome = true
  others : ∀ j, j ≠ i → t.str j = s.str j
  bays : ∀ c, c ≠ b → t.bay c = s.bay c
  mgmt : t.mgmt = s.mgmt
  water : t.water = s.water
  gas : t.gas = { s.gas with bayStrings := t.gas.bayStrings, fan := t.gas.fan, runOn := t.gas.runOn }
  requests : t.requests = s.requests
  holds : s.holds ⊆ t.holds

/-- The bay and the string as a grant writes them. -/
def State.bayGranted (s : State) (i : StringNo) (b : BayNo) (limit : Nat) (reduced : Bool) : State :=
  (s.setBay b { state := .busy, string := some i, limit := limit, reduced := reduced }).modStr i
    fun r => { r with bay := some b, state := .baseline, jobCharge := 0, startMinute := s.minute }

theorem State.bayGranted_str (s : State) (i : StringNo) (b : BayNo) (limit : Nat) (reduced : Bool) :
    (s.bayGranted i b limit reduced).str i =
      { s.str i with bay := some b, state := .baseline, jobCharge := 0, startMinute := s.minute } :=
  State.str_modStr _ i _

theorem State.bayGranted_str_ne (s : State) (i : StringNo) (b : BayNo) (limit : Nat) (reduced : Bool) {j : StringNo} (h : j ≠ i) :
    (s.bayGranted i b limit reduced).str j = s.str j := State.str_modStr_ne _ i j _ h

theorem State.bayGranted_bay (s : State) (i : StringNo) (b : BayNo) (limit : Nat) (reduced : Bool) :
    (s.bayGranted i b limit reduced).bay b = { state := .busy, string := some i, limit := limit, reduced := reduced } :=
  s.bay_setBay b _

theorem State.bayGranted_bay_ne (s : State) (i : StringNo) (b : BayNo) (limit : Nat) (reduced : Bool) {c : BayNo} (h : c ≠ b) :
    (s.bayGranted i b limit reduced).bay c = s.bay c := s.bay_setBay_ne b c _ h

/-- The holds of a grant, taken when bay and string are written. -/
def State.bayHeld (s : State) (i : StringNo) (b : BayNo) (limit : Nat) (reduced : Bool) : State :=
  (s.bayGranted i b limit reduced).takeTwo ⟨((s.bayGranted i b limit reduced).str i).cfg.switch, .switch i⟩
    ⟨s.site.charger, .charger⟩

theorem State.grantEqualise_eq (s : State) (i : StringNo) (b : BayNo) (limit : Nat) (reduced : Bool) :
    s.grantEqualise i b limit reduced = ((s.bayHeld i b limit reduced).baselineSweep i).noteBayEntry := rfl

theorem State.bayHeld_eq (s : State) (i : StringNo) (b : BayNo) (limit : Nat) (reduced : Bool) :
    s.bayHeld i b limit reduced = { s.bayGranted i b limit reduced with
      fp := (s.bayHeld i b limit reduced).fp, holds := (s.bayHeld i b limit reduced).holds } := State.takeTwo_eq _ _ _

theorem State.bayHeld_isSome (s : State) (i : StringNo) (b : BayNo) (limit : Nat) (reduced : Bool) :
    ((s.bayHeld i b limit reduced).holderOf (s.str i).cfg.switch).isSome = true ∧
      ((s.bayHeld i b limit reduced).holderOf s.site.charger).isSome = true := by
  have hheld := (s.bayGranted i b limit reduced).takeTwo_isSome
    ⟨((s.bayGranted i b limit reduced).str i).cfg.switch, .switch i⟩ ⟨s.site.charger, .charger⟩
  have hswitch : (s.str i).cfg.switch = ((s.bayGranted i b limit reduced).str i).cfg.switch := by rw [State.bayGranted_str]
  rw [hswitch]
  exact hheld

theorem State.bayHeld_subset (s : State) (i : StringNo) (b : BayNo) (limit : Nat) (reduced : Bool) :
    s.holds ⊆ (s.bayHeld i b limit reduced).holds := State.takeTwo_subset (s.bayGranted i b limit reduced) _ _

/-- A string that joins the bay states, and the fan that follows, write no other field of the Gas Supervisor. -/
theorem FanMove.entryGas {u t : State} (h : FanMove (u.modGas fun g => { g with bayStrings := g.bayStrings + 1 }) t) :
    t.gas = { u.gas with bayStrings := t.gas.bayStrings, fan := t.gas.fan, runOn := t.gas.runOn } := by
  have hcount : t.gas.bayStrings = u.gas.bayStrings + 1 := by rw [h.gas]; rfl
  rw [hcount]
  exact h.gas

theorem FanMove.entryStr (u : State) (j : StringNo) : u.noteBayEntry.str j = u.str j := (FanMove.noteBayEntry u).str j
theorem FanMove.entryBay (u : State) (c : BayNo) : u.noteBayEntry.bay c = u.bay c := (FanMove.noteBayEntry u).bay c
theorem FanMove.entryMgmt (u : State) : u.noteBayEntry.mgmt = u.mgmt := (FanMove.noteBayEntry u).mgmt
theorem FanMove.entryWater (u : State) : u.noteBayEntry.water = u.water := (FanMove.noteBayEntry u).water
theorem FanMove.entryRequests (u : State) : u.noteBayEntry.requests = u.requests := (FanMove.noteBayEntry u).requests

theorem State.grantEqualise_granted (s : State) (i : StringNo) (b : BayNo) (limit : Nat) (reduced : Bool) :
    EqualiseGranted i b limit reduced s (s.grantEqualise i b limit reduced) := by
  rw [State.grantEqualise_eq]
  set u := s.bayHeld i b limit reduced with hu
  have heq : u = { s.bayGranted i b limit reduced with fp := u.fp, holds := u.holds } := s.bayHeld_eq i b limit reduced
  have hsweep := SweepStep.baselineSweep i u
  have hstr : u.str i = { s.str i with bay := some b, state := .baseline, jobCharge := 0, startMinute := s.minute } := by
    rw [heq]; exact s.bayGranted_str i b limit reduced
  have hbay : u.bay b = { state := .busy, string := some i, limit := limit, reduced := reduced } := by
    rw [heq]; exact s.bayGranted_bay i b limit reduced
  obtain ⟨hswitch, hcharger⟩ := s.bayHeld_isSome i b limit reduced
  have hholds : u.holds ⊆ ((u.baselineSweep i).noteBayEntry).holds := by
    have h := (u.baselineSweep i).noteBayEntry_holds
    rwa [show (u.baselineSweep i).holds = u.holds from by rw [hsweep.eq]] at h
  have hfinal := FanMove.entryStr (u.baselineSweep i)
  have hfinalBay := FanMove.entryBay (u.baselineSweep i)
  exact {
    bay := by rw [hfinalBay, (hsweep.link b).1, hbay]; rfl
    reduced := by rw [hfinalBay, (hsweep.link b).2, hbay]
    named := by rw [hfinal, hsweep.bayField, hstr]
    jobCharge := by rw [hfinal, hsweep.str, hstr]
    startMinute := by rw [hfinal, hsweep.str, hstr]
    state := by
      rw [hfinal]
      obtain h | ⟨-, h⟩ := hsweep.state
      · rw [h, hstr]; exact .inl rfl
      · exact .inr h
    switchHeld := State.holderOf_isSome_of_subset hholds hswitch
    chargerHeld := State.holderOf_isSome_of_subset hholds hcharger
    others := fun j hj => by
      rw [hfinal, hsweep.others j hj, heq]
      exact s.bayGranted_str_ne i b limit reduced hj
    bays := fun c hc => by
      have hnamed : (u.str i).bay = some b := by rw [hstr]
      have hne : (u.str i).bay ≠ some c := fun e => hc (Option.some.inj (e.symm.trans hnamed))
      rw [hfinalBay, hsweep.bays c hne, heq]
      exact s.bayGranted_bay_ne i b limit reduced hc
    mgmt := by rw [FanMove.entryMgmt, hsweep.eq, heq]; rfl
    water := by rw [FanMove.entryWater, hsweep.eq, heq]; rfl
    gas := by
      have hgas : (u.baselineSweep i).gas = s.gas := by rw [hsweep.eq, heq]; rfl
      rw [← hgas]
      exact (FanMove.noteBayEntry _).entryGas
    requests := by rw [FanMove.entryRequests, hsweep.eq, heq]; rfl
    holds := List.Subset.trans (s.bayHeld_subset i b limit reduced) hholds }

theorem EqualiseGranted.grants {i : StringNo} {b : BayNo} {limit : Nat} {reduced : Bool} {s t : State}
    (h : EqualiseGranted i b limit reduced s t) (due : t.evalDue = s.evalDue) (float : (s.str i).state = .float)
    (free : (s.bay b).state = .free) {l : List Entry} (listed : ∃ x ∈ l, x.string = i) (sub : s.requests ⊆ l) :
    Grants { s with requests := l } t where
  evalDue := due
  mgmt := h.mgmt
  water := by rw [h.water]
  gas := h.gas
  holds := h.holds
  requests := by rw [h.requests]; exact sub
  unlisted j hj := h.others j fun e => by
    obtain ⟨x, hx, hi⟩ := listed
    exact hj x hx (hi.trans e.symm)
  working j hj := h.others j fun e => hj (by rw [e]; exact float)
  inUse c hc := h.bays c fun e => hc (by rw [e]; exact free)

/-! ## The bay pass (R76, R77) -/

/-- The entries that a bay can be granted to. -/
def State.bayCandidates (s : State) : List Entry := s.requests.filter fun e => (s.equaliseGrant e).isSome

theorem State.bayPick_none {s : State} (h : pick s.bayCandidates = none) : s.bayPick = s := by
  unfold State.bayCandidates at h
  unfold State.bayPick
  rw [h]

theorem State.bayPick_some {s : State} {e : Entry} (h : pick s.bayCandidates = some e) :
    ∃ b limit reduced, s.equaliseGrant e = some (b, limit, reduced) ∧ e ∈ s.requests ∧
      s.bayPick = (s.dropEntry e.string .equalise).grantEqualise e.string b limit reduced := by
  obtain ⟨hmem, hgrant⟩ := List.mem_filter.1 (pick_mem h)
  obtain ⟨⟨b, limit, reduced⟩, hg⟩ := Option.isSome_iff_exists.1 hgrant
  refine ⟨b, limit, reduced, hg, hmem, ?_⟩
  unfold State.bayCandidates at h
  unfold State.bayPick
  simp only [h, hg]

/-- What the grant of the bay pass makes, and that its string was in FLOAT and its bay FREE. -/
theorem State.bayPick_granted {s : State} {e : Entry} (h : pick s.bayCandidates = some e) :
    ∃ b limit reduced, s.equaliseGrant e = some (b, limit, reduced) ∧ e ∈ s.requests ∧
      EqualiseGranted e.string b limit reduced (s.dropEntry e.string .equalise) s.bayPick ∧
      (s.str e.string).state = .float ∧ (s.bay b).state = .free ∧ (b = 0 ∨ (s.site.bays = 2 ∧ (s.bay 0).state ≠ .free)) := by
  obtain ⟨b, limit, reduced, hg, hmem, heq⟩ := State.bayPick_some h
  obtain ⟨-, hready, hbay, -⟩ := State.equaliseGrant_eq_some.1 hg
  obtain ⟨hfree, huse⟩ := (s.freeBayInUse_iff b).1 hbay
  obtain ⟨-, hfloat, -⟩ := (s.equaliseReady_iff e).1 hready
  refine ⟨b, limit, reduced, hg, hmem, ?_, hfloat, hfree, huse⟩
  rw [heq]
  exact State.grantEqualise_granted _ _ b limit reduced

theorem Grants.bayPick (s : State) : Grants s s.bayPick := by
  cases h : pick s.bayCandidates with
  | none => rw [State.bayPick_none h]; exact .refl s
  | some e =>
    obtain ⟨b, limit, reduced, -, hmem, hgranted, hfloat, hfree, -⟩ := State.bayPick_granted h
    exact hgranted.grants s.bayPick_evalDue hfloat hfree ⟨e, hmem, rfl⟩ List.filter_sublist.subset

theorem State.bayPick_of_full {s : State} (h : s.freeBayInUse = none) : s.bayPick = s := by
  refine State.bayPick_none ((pick_eq_none _).2 ?_)
  unfold State.bayCandidates
  rw [List.filter_eq_nil_iff]
  intro e _
  rw [State.equaliseGrant_of_full h e]
  exact Bool.false_ne_true

/-- A pick that changes anything fills its bay. -/
theorem State.bayPick_fills {s : State} (h : s.bayPick ≠ s) :
    ∃ b, (s.bay b).state = .free ∧ (s.bayPick.bay b).state = .busy ∧ (b = 0 ∨ (s.site.bays = 2 ∧ (s.bay 0).state ≠ .free)) := by
  cases hpick : pick s.bayCandidates with
  | none => exact absurd (State.bayPick_none hpick) h
  | some e =>
    obtain ⟨b, limit, reduced, -, -, hgranted, -, hfree, huse⟩ := State.bayPick_granted hpick
    exact ⟨b, hfree, congrArg BayLink.state hgranted.bay, huse⟩

/-- One pick is enough where only one bay can be granted. -/
theorem State.bayPick_bayPick_of_one {s : State} (h : s.site.bays ≠ 2 ∨ (s.bay 0).state ≠ .free) :
    s.bayPick.bayPick = s.bayPick := by
  by_cases same : s.bayPick = s
  · rw [same, same]
  · obtain ⟨b, hfree, hbusy, huse⟩ := State.bayPick_fills same
    have hkeeps := Grants.bayPick s
    refine State.bayPick_of_full ((State.freeBayInUse_eq_none _).2 ?_)
    obtain rfl | ⟨two, zero⟩ := huse
    · refine ⟨by rw [hbusy]; decide, fun two => ?_⟩
      rw [(Kept.bayPick s).site] at two
      exact absurd hfree (h.resolve_left (not_not.2 two))
    · refine ⟨by rw [hkeeps.inUse 0 zero]; exact zero, fun _ => ?_⟩
      have hb : b = 1 := by
        match b with
        | 0 => exact absurd hfree zero
        | 1 => rfl
      rw [← hb, hbusy]
      decide

/-- Two picks fill what there is to fill. -/
theorem State.bayPick_thrice (s : State) : s.bayPick.bayPick.bayPick = s.bayPick.bayPick := by
  by_cases same : s.bayPick = s
  · rw [same, same, same]
  · refine State.bayPick_bayPick_of_one (s := s.bayPick) ?_
    obtain ⟨b, hfree, hbusy, huse⟩ := State.bayPick_fills same
    obtain rfl | ⟨-, zero⟩ := huse
    · exact .inr (by rw [hbusy]; decide)
    · exact .inr (by rw [(Grants.bayPick s).inUse 0 zero]; exact zero)

/-! ## The manifold pass (R78, R130) -/

theorem Grants.openFill {s : State} (i : StringNo) (p : Position) (rest : List Position) : Grants s (s.openFill i p rest) := by
  unfold State.openFill
  split
  · exact .refl s
  · dsimp only
    split
    · exact ⟨rfl, rfl, rfl, rfl, fun _ h => h, fun _ h => h, fun _ _ => rfl, fun _ _ => rfl, fun _ _ => rfl⟩
    · exact ⟨rfl, rfl, rfl, rfl, fun _ h => h, fun _ h => h, fun _ _ => rfl, fun _ _ => rfl, fun _ _ => rfl⟩

theorem State.openFill_round (s : State) (i : StringNo) (p : Position) (rest : List Position) :
    (s.openFill i p rest).water.round.state = s.water.round.state ∧ (s.openFill i p rest).strings = s.strings := by
  unfold State.openFill
  split
  · exact ⟨rfl, rfl⟩
  · dsimp only
    split
    · refine ⟨?_, rfl⟩
      unfold State.openTaken
      rw [State.modRound_round]
      split <;> rfl
    · exact ⟨rfl, rfl⟩

/-- The round as a watering grant starts it. -/
def State.roundGranted (s : State) (i : StringNo) (src : SourceSet) : Round :=
  { state := .filling, string := some i, build := some (buildOf src), startMinute := s.minute,
    fillList := s.fillListFor i (buildOf src) }

/-- The round and the string as a watering grant writes them, before the holds are taken. -/
def State.roundStarted (s : State) (i : StringNo) (src : SourceSet) : State :=
  (s.modRound fun _ => s.roundGranted i src).modStr i fun r => { r with state := .watering }

theorem State.wateringGranted_frame (s : State) (i : StringNo) (src : SourceSet) :
    s.wateringGranted i src = { s.roundStarted i src with
      fp := (s.wateringGranted i src).fp, holds := (s.wateringGranted i src).holds } := s.wateringGranted_eq i src

theorem State.wateringGranted_str (s : State) (i : StringNo) (src : SourceSet) :
    (s.wateringGranted i src).str i = { s.str i with state := .watering } := by
  rw [State.wateringGranted_frame]
  exact (s.modRound fun _ => s.roundGranted i src).str_modStr i fun r => { r with state := .watering }

theorem State.wateringGranted_str_ne (s : State) (i : StringNo) (src : SourceSet) {j : StringNo} (h : j ≠ i) :
    (s.wateringGranted i src).str j = s.str j := by
  rw [State.wateringGranted_frame]
  exact (s.modRound fun _ => s.roundGranted i src).str_modStr_ne i j (fun r => { r with state := .watering }) h

theorem State.takeValves_subset (l : List Byte) (s : State) :
    s.holds ⊆ (l.foldl (fun s a => s.takeHold a .manifold) s).holds :=
  foldl_keeps (fun t : State => s.holds ⊆ t.holds) _ (fun t a h => List.Subset.trans h (t.takeHold_subset a _)) l s fun _ h => h

theorem State.wateringGranted_holds (s : State) (i : StringNo) (src : SourceSet) : s.holds ⊆ (s.wateringGranted i src).holds :=
  State.takeValves_subset _ (s.roundStarted i src)

/-- The takes of a list of addresses hold each of them, with the new holder where it was free. -/
theorem State.holderOf_takeValves (a : Byte) : ∀ (l : List Byte) (s : State),
    (l.foldl (fun s a => s.takeHold a .manifold) s).holderOf a =
      if s.holderOf a = none ∧ a ∈ l then some .manifold else s.holderOf a
  | [], s => by simp
  | x :: l, s => by
    rw [List.foldl_cons, State.holderOf_takeValves a l]
    cases held : s.holderOf x with
    | some h =>
      rw [s.takeHold_held x .manifold h held]
      have hne : s.holderOf a = none → a ≠ x := fun h e => by rw [e, held] at h; cases h
      by_cases free : s.holderOf a = none <;> simp [free, hne]
    | none =>
      rw [State.holderOf_takeHold_free held]
      by_cases e : x = a
      · subst e
        simp [held]
      · simp [e, Ne.symm e]

theorem Grants.wateringGranted {s : State} (i : StringNo) (src : SourceSet) (float : (s.str i).state = .float) {l : List Entry}
    (listed : ∃ x ∈ l, x.string = i) (sub : s.requests ⊆ l) : Grants { s with requests := l } (s.wateringGranted i src) := by
  have heq := s.wateringGranted_eq i src
  refine ⟨by rw [heq]; rfl, by rw [heq]; rfl, by rw [heq]; rfl, by rw [heq]; rfl, s.wateringGranted_holds i src,
    by rw [heq]; exact sub, fun j hj => ?_, fun j hj => ?_, fun c _ => by rw [heq]; rfl⟩
  · refine s.wateringGranted_str_ne i src fun e => ?_
    obtain ⟨x, hx, hi⟩ := listed
    exact hj x hx (hi.trans e.symm)
  · exact s.wateringGranted_str_ne i src fun e => hj (by rw [e]; exact float)

theorem State.manifoldPick_none {s : State} (h : pick (s.requests.filter s.wateringEligible) = none) : s.manifoldPick = s := by
  unfold State.manifoldPick
  rw [h]

/-- The grant of the manifold pass opens the head of its list, or waits for a CLOSE. -/
theorem State.manifoldPick_some {s : State} {e : Entry} (h : pick (s.requests.filter s.wateringEligible) = some e) :
    e ∈ s.requests ∧ (s.str e.string).state = .float ∧
      s.manifoldPick = ((s.dropEntry e.string .watering).wateringGranted e.string e.sources).nextFill ∧
      (s.manifoldPick = (s.dropEntry e.string .watering).wateringGranted e.string e.sources ∨
        ∃ p rest, s.manifoldPick = ((s.dropEntry e.string .watering).wateringGranted e.string e.sources).openFill e.string p rest) := by
  obtain ⟨hmem, heligible⟩ := List.mem_filter.1 (pick_mem h)
  obtain ⟨-, -, hfloat, -, p, rest, list, covered⟩ := (s.wateringEligible_iff e).1 heligible
  have heq : s.manifoldPick = (s.dropEntry e.string .watering).grantWatering e.string e.sources := by
    unfold State.manifoldPick
    rw [h]
  refine ⟨hmem, hfloat, heq, ?_⟩
  rw [heq]
  obtain hw | ho := State.grantWatering_cases (s := s.dropEntry e.string .watering) (i := e.string) (src := e.sources) list covered
  · exact .inl hw
  · exact .inr ⟨p, rest, ho⟩

theorem Grants.manifoldPick (s : State) : Grants s s.manifoldPick := by
  cases h : pick (s.requests.filter s.wateringEligible) with
  | none => rw [State.manifoldPick_none h]; exact .refl s
  | some e =>
    obtain ⟨hmem, hfloat, -, hcases⟩ := State.manifoldPick_some h
    have hgranted : Grants s ((s.dropEntry e.string .watering).wateringGranted e.string e.sources) :=
      .wateringGranted (s := s.dropEntry e.string .watering) e.string e.sources hfloat ⟨e, hmem, rfl⟩ List.filter_sublist.subset
    obtain heq | ⟨p, rest, heq⟩ := hcases
    · rw [heq]; exact hgranted
    · rw [heq]; exact hgranted.trans (.openFill _ p rest)

theorem Grants.evaluate (s : State) : Grants s s.evaluate := ((Grants.bayPick s).trans (.bayPick _)).trans (.manifoldPick _)

/-- An evaluation that finds nothing to grant changes nothing. -/
theorem State.evaluate_of_none {s : State} (h : ∀ e ∈ s.requests, s.equaliseGrant e = none ∧ s.wateringEligible e = false) :
    s.evaluate = s := by
  have hbay : s.bayPick = s := State.bayPick_none <| (pick_eq_none _).2 <| List.filter_eq_nil_iff.2 fun e he => by
    rw [(h e he).1]; exact Bool.false_ne_true
  have hmanifold : s.manifoldPick = s := State.manifoldPick_none <| (pick_eq_none _).2 <| List.filter_eq_nil_iff.2 fun e he => by
    rw [(h e he).2]; exact Bool.false_ne_true
  unfold State.evaluate
  rw [hbay, hbay, hmanifold]

theorem State.evaluate_of_nil {s : State} (h : s.requests = []) : s.evaluate = s :=
  State.evaluate_of_none fun e he => by rw [h] at he; cases he

/-! ## The obligation -/

/-- The grant of a bay, as the rest of the evaluation leaves it. -/
theorem EqualiseGranted.after {i : StringNo} {b : BayNo} {limit : Nat} {reduced : Bool} {s t u : State}
    (h : EqualiseGranted i b limit reduced s t) (k : Grants t u) :
    (u.bay b).state = .busy ∧ (u.bay b).string = some i ∧ (u.bay b).limit = limit ∧ (u.bay b).reduced = reduced ∧
      (u.str i).bay = some b ∧ (u.str i).jobCharge = 0 ∧ (u.str i).startMinute = s.minute ∧
      (u.str i).state ∈ [StringState.baseline, .transferOut] ∧ (u.holderOf (s.str i).cfg.switch).isSome = true ∧
      (u.holderOf s.site.charger).isSome = true := by
  have hstate : (t.bay b).state = .busy := congrArg BayLink.state h.bay
  have hworking : (t.str i).state ≠ .float := by obtain e | e := h.state <;> rw [e] <;> decide
  rw [k.inUse b (by rw [hstate]; decide), k.working i hworking]
  refine ⟨hstate, congrArg BayLink.string h.bay, congrArg BayLink.limit h.bay, h.reduced, h.named, h.jobCharge, h.startMinute, ?_,
    State.holderOf_isSome_of_subset k.holds h.switchHeld, State.holderOf_isSome_of_subset k.holds h.chargerHeld⟩
  obtain e | e := h.state <;> simp [e]

theorem mem_valveAddrs (s : State) (a : Byte) : a ∈ s.valveAddrs ↔ ∃ m ∈ s.sourceMap, m.addr = a ∧ m.role = .valve := by
  simp only [State.valveAddrs, List.mem_map, List.mem_filter, decide_eq_true_eq]
  exact ⟨fun ⟨m, ⟨hm, hr⟩, ha⟩ => ⟨m, hm, ha, hr⟩, fun ⟨m, hm, ha, hr⟩ => ⟨m, ⟨hm, hr⟩, ha⟩⟩

/-- Settles O53. -/
theorem evaluationGrants : Obligations.EvaluationGrants := by
  refine ⟨fun l => ⟨pick_eq_none l, fun e h => ⟨pick_mem h, pick_first h⟩⟩, fun s => ⟨rfl, s.bayPick_thrice,
    State.bayPick_bayPick_of_one, State.evaluate_of_none, fun x hx => (Grants.evaluate s).requests hx, fun i hi =>
      (Grants.evaluate s).unlisted i hi, fun e b lim red => ?_, s.wateringEligible_iff, fun i build =>
      ⟨s.fillListFor_sorted i build, s.mem_fillListFor i build⟩, buildOf_cases, fun e h => ?_, State.bayPick_none,
      State.manifoldPick_none, fun e h => ?_⟩⟩
  · rw [State.equaliseGrant_eq_some, State.equaliseReady_iff, State.freeBayInUse_iff]
    unfold State.currentFor
    tauto
  · obtain ⟨b, lim, red, hg, -, hgranted, -⟩ := State.bayPick_granted h
    obtain ⟨-, -, -, hcurrent⟩ := State.equaliseGrant_eq_some.1 hg
    have hrest : Grants s.bayPick s.evaluate := (Grants.bayPick _).trans (.manifoldPick _)
    refine ⟨b, lim, red, hg, grantLimit_le hcurrent, hgranted.requests, fun x hx => ?_, fun t ht => ?_⟩
    · have hmem := hrest.requests hx
      rw [hgranted.requests] at hmem
      obtain ⟨-, hfor⟩ := List.mem_filter.1 hmem
      simpa [Entry.isFor, imp_iff_not_or] using hfor
    · rw [List.mem_cons, List.mem_singleton] at ht
      obtain rfl | rfl := ht
      · exact hgranted.after (.refl _)
      · exact hgranted.after hrest
  · obtain ⟨-, -, hnext, hcases⟩ := State.manifoldPick_some h
    set v := (s.dropEntry e.string .watering).wateringGranted e.string e.sources with hv
    have heq := (s.dropEntry e.string .watering).wateringGranted_eq e.string e.sources
    have hstr : v.str e.string = { s.str e.string with state := .watering } :=
      (s.dropEntry e.string .watering).wateringGranted_str e.string e.sources
    have hfilling : v.water.round.state = .filling := by rw [hv, heq]; rfl
    refine ⟨v, hnext, by rw [hv, heq]; rfl, hstr, fun j hj => State.wateringGranted_str_ne _ _ _ hj, by rw [hv, heq]; rfl,
      by rw [hv, heq]; rfl, fun a => ?_, ?_, ?_⟩
    · simp only [← mem_valveAddrs]
      exact State.holderOf_takeValves a (s.dropEntry e.string .watering).valveAddrs
        ((s.dropEntry e.string .watering).roundStarted e.string e.sources)
    · obtain hm | ⟨p, rest, hm⟩ := hcases
      · rw [hm, hstr]
      · have := (v.openFill_round e.string p rest).2
        rw [hm]
        unfold State.str
        rw [this]
        exact congrArg StringRec.state hstr
    · obtain hm | ⟨p, rest, hm⟩ := hcases
      · rw [hm, hfilling]
      · rw [hm, (v.openFill_round e.string p rest).1, hfilling]

end Sys2Proof.Machine
end

section
/-! PROOF. The table writes of MU (R22, R30, R177 to R180): Profiles, the Source Map and the String Table. -/

namespace Sys2Proof.Machine

open Sys2Proof

/-! ## Profiles (R180) -/

theorem StringState.working_iff (x : StringState) : x.working = true ↔
    x ∈ [StringState.baseline, .transferOut, .equalising, .held, .transferBack, .settling, .watering] := by
  cases x <;> decide

theorem State.profileConflict_iff (s : State) (k : ProfileNo) : s.profileConflict k = true ↔
    ∃ i, (s.str i).cfg.profile = k ∧ (s.str i).state ∈
      [StringState.baseline, .transferOut, .equalising, .held, .transferBack, .settling, .watering] := by
  simp only [State.profileConflict, List.any_eq_true, mem_allStrings, true_and, Bool.and_eq_true, decide_eq_true_iff,
    StringState.working_iff]

theorem State.writeProfile_badRange (s : State) {n : Byte} {body : List Byte}
    (h : 8 ≤ n.toNat ∨ (readProfile body).inRange = false) : s.writeProfile (n :: body) = s.refuse .badRange := by
  unfold State.writeProfile
  simp only [natField_zero_one, List.drop_succ_cons, List.drop_zero]
  split
  · rfl
  · rename_i k hk
    obtain h | h := h
    · rw [indexOf?_eq_none h] at hk; cases hk
    · rw [h]; rfl

theorem State.writeProfile_eq (s : State) {n : Byte} {k : ProfileNo} (hn : n.toNat = k.val) {body : List Byte}
    (h : (readProfile body).inRange = true) : s.writeProfile (n :: body) =
      if s.profileConflict k then s.refuse .badState
      else ({ code := .ok }, ({ s with profiles := tset s.profiles k (readProfile body) }.emptyProfileLatches k).trigger) := by
  unfold State.writeProfile
  simp only [natField_zero_one, hn, indexOf?_val, List.drop_succ_cons, List.drop_zero, h]
  rfl

/-- Settles O21. -/
theorem profileWritten : Obligations.ProfileWritten := by
  refine ⟨Profile.inRange_iff, fun s src n rest body hbody hs => ?_⟩
  intro u x
  have hkind : requestKind ([0x01, 0x05, n] ++ body) = .writeProfile := if_pos ⟨rfl, by simp [hbody]⟩
  refine ⟨fun h => congrArg Host.Outcome.next (hs.refused hkind (u.writeProfile_badRange h)), fun k hn hrange => ?_⟩
  have hanswer := u.writeProfile_eq hn hrange
  refine ⟨fun h => congrArg Host.Outcome.next (hs.refused hkind (hanswer.trans (if_pos ((u.profileConflict_iff k).2 h)))),
    fun h => ?_⟩
  have hfree : ¬u.profileConflict k = true := by
    rw [State.profileConflict_iff]
    rintro ⟨i, hi, hw⟩
    have hloose := h i hi
    have hstate : (u.str i).state = (s.str i).state := rfl
    rw [hstate] at hw
    revert hloose hw
    cases (s.str i).state <;> decide
  set v : State := { u with profiles := tset s.profiles k x }.emptyProfileLatches k with hv
  have hkept := Kept.evaluate v
  have hgrants := Grants.evaluate v
  exact ⟨v, v.evaluate, rfl, congrArg Host.Outcome.next (hs.triggered hkind (hanswer.trans (if_neg hfree)) rfl), rfl,
    tset_self _ k x, fun j hj => tset_ne _ k j x hj, fun i => tabulate_get _ i, hkept.profiles,
    congrArg Management.latches hgrants.mgmt, hkept.site, hkept.cfg⟩

/-! ## The Source Map (R21, R22) -/

/-- The entry of a write is the one at its address, and every other address keeps its entry. -/
theorem find?_insertEntry (e : MapEntry) (a : Byte) : ∀ l : List MapEntry,
    (insertEntry e l).find? (·.addr = a) = if a = e.addr then some e else l.find? (·.addr = a)
  | [] => by
    by_cases h : e.addr = a
    · simp [insertEntry, h]
    · simp [insertEntry, h, Ne.symm h]
  | x :: l => by
    have ih := find?_insertEntry e a l
    unfold insertEntry
    split
    · by_cases h : e.addr = a
      · simp [h]
      · simp [List.find?_cons, h, Ne.symm h]
    · split
      · rename_i hx
        by_cases h : e.addr = a
        · simp [h]
        · simp [h, Ne.symm h, ← hx]
      · rename_i hx
        by_cases h : x.addr = a
        · have : a ≠ e.addr := fun ha => hx (by rw [h, ha])
          simp [h, this]
        · simp only [List.find?_cons, h, decide_false, ih]

section
variable (s : State)

theorem State.stringNames_iff (a : Byte) :
    s.stringNames a = true ↔ ∃ i, (s.str i).cfg.switch = a ∨ (s.str i).cfg.sensor = a := by
  simp only [State.stringNames, List.any_eq_true, mem_allStrings, true_and, Bool.or_eq_true, decide_eq_true_iff]

theorem State.cellBinds_iff (a : Byte) :
    s.cellBinds a = true ↔ ∃ i p b, (s.cell i p).binding = some b ∧ b.addr = a := by
  simp only [State.cellBinds, List.any_eq_true, mem_allStrings, mem_allPositions, true_and]
  refine exists_congr fun i => exists_congr fun p => ?_
  cases (s.cell i p).binding with
  | none => simp
  | some b => simp

theorem Sweep.isSweeping_iff (x : Sweep) : x.isSweeping = true ↔ x ≠ .idle := by cases x <;> simp [Sweep.isSweeping]

theorem State.sweptMonitor_iff (e : MapEntry) :
    s.sweptMonitor e = true ↔ e.role = .cellMonitor ∧ ∃ i, e.string = some i ∧ (s.str i).sweep ≠ .idle := by
  unfold State.sweptMonitor
  cases e.string with
  | none => simp
  | some i => simp [Sweep.isSweeping_iff]

theorem State.overlapsMap_iff (e : MapEntry) : s.overlapsMap e = true ↔
    e.role = .cellMonitor ∧ ∃ x ∈ s.sourceMap, x.role = .cellMonitor ∧ x.addr ≠ e.addr ∧ x.string = e.string ∧
      ∃ f n g m, e.block = some (f, n) ∧ x.block = some (g, m) ∧ f < g + m ∧ g < f + n := by
  have hone : ∀ x : MapEntry, e.overlaps x = true ↔ e.role = .cellMonitor ∧ x.role = .cellMonitor ∧ x.addr ≠ e.addr ∧
      x.string = e.string ∧ ∃ f n g m, e.block = some (f, n) ∧ x.block = some (g, m) ∧ f < g + m ∧ g < f + n := by
    intro x
    unfold MapEntry.overlaps
    rcases hb : e.block with _ | ⟨f, n⟩ <;> rcases hx : x.block with _ | ⟨g, m⟩ <;>
      simp [and_assoc, eq_comm (a := e.string), eq_comm (a := e.addr), and_left_comm]
  simp only [State.overlapsMap, List.any_eq_true, hone]
  constructor
  · rintro ⟨x, hx, he, h⟩; exact ⟨he, x, hx, h⟩
  · rintro ⟨he, x, hx, h⟩; exact ⟨x, hx, he, h⟩

theorem State.deletionConflict_iff (e : MapEntry) : s.deletionConflict e = true ↔
    (∃ i, (s.str i).cfg.switch = e.addr ∨ (s.str i).cfg.sensor = e.addr) ∨
    (s.site.charger = e.addr ∨ s.site.gasSensor = e.addr ∨ s.site.fan = e.addr) ∨
    (∃ i p b, (s.cell i p).binding = some b ∧ b.addr = e.addr) ∨ s.holderOf e.addr ≠ none ∨
    (e.role = .cellMonitor ∧ ∃ i, e.string = some i ∧ (s.str i).sweep ≠ .idle) := by
  unfold State.deletionConflict
  simp only [Bool.or_eq_true, decide_eq_true_iff, State.stringNames_iff, State.cellBinds_iff, State.sweptMonitor_iff,
    Option.isSome_iff_ne_none, or_assoc]

theorem State.additionConflict_iff (e : MapEntry) : s.additionConflict e = true ↔
    64 ≤ s.sourceMap.length ∨ s.overlapsMap e = true ∨ s.sweptMonitor e = true := by
  unfold State.additionConflict
  simp only [Bool.or_eq_true, decide_eq_true_iff, or_assoc]
  rfl

theorem State.amendConflict_iff (old e : MapEntry) : s.amendConflict old e = true ↔
    (e.string ≠ old.string ∧ ((∃ i, (s.str i).cfg.switch = e.addr ∨ (s.str i).cfg.sensor = e.addr) ∨ s.holderOf e.addr ≠ none)) ∨
    s.overlapsMap e = true ∨ s.sweptMonitor old = true ∨ s.sweptMonitor e = true := by
  unfold State.amendConflict
  simp only [Bool.or_eq_true, Bool.and_eq_true, decide_eq_true_iff, State.stringNames_iff, Option.isSome_iff_ne_none, or_assoc]

/-- A write that names a role, by the entry that its body carries. -/
def State.writeRead (s : State) : Option MapEntry → Answer
  | none => s.refuse .badRange
  | some e => s.writeEntry e

theorem State.writeSourceMap_eq (a role str first count action : Byte) :
    s.writeSourceMap [a, role, str, first, count, action] =
      if !isFieldAddr a then s.refuse .badRange
      else if role.toNat = 0 then
        if deletionInRange [role, str, first, count, action] then s.deleteEntry a else s.refuse .badRange
      else s.writeRead (readEntry a [role, str, first, count, action]) := by
  have h0 : byteField [a, role, str, first, count, action] 0 = a := byteField_zero _ _
  unfold State.writeSourceMap
  simp only [h0, List.drop_succ_cons, List.drop_zero, natField_zero_one]
  rfl

end

theorem deletionInRange_iff (role str first count action : Byte) :
    deletionInRange [role, str, first, count, action] = true ↔
      action.toNat ≤ 1 ∧ (str.toNat ≤ 7 ∨ str = 0xFF) ∧ (first.toNat ≤ 31 ∨ first = 0xFF) ∧ count.toNat ≤ 4 ∧
        (first = 0xFF ∨ first.toNat + count.toNat ≤ 32) := by
  have hff : ∀ b : Byte, b.toNat = 0xFF ↔ b = 0xFF := fun b => by rw [← BitVec.toNat_inj]; rfl
  unfold deletionInRange
  simp only [natField_cons_succ, natField_zero_one, Bool.and_eq_true, Bool.or_eq_true, decide_eq_true_iff, hff]
  constructor
  · rintro ⟨⟨⟨⟨hs, hf⟩, hc⟩, ha⟩, ho⟩
    refine ⟨ha, hs, hf, hc, ?_⟩
    obtain (h | h) | h := ho
    · exact .inl h
    · obtain hf | hf := hf
      · exact .inr (by omega)
      · exact .inl hf
    · exact .inr h
  · rintro ⟨ha, hs, hf, hc, ho⟩
    exact ⟨⟨⟨⟨hs, hf⟩, hc⟩, ha⟩, ho.elim (fun h => .inl (.inl h)) .inr⟩


/-- The entry that a body names, its fields being in range (R21). -/
def writtenEntry (a str first count action : Byte) (r : Role) : MapEntry :=
  { addr := a, role := r, string := if r.hasString then indexOf? 8 str.toNat else none,
    block := if r = .cellMonitor then some (first.toNat, count.toNat) else none, pass := action = 0x00 }

/-- The fields are present or absent as the role asks, and in range (R21). -/
def entryInRange (str first count action : Byte) (r : Role) : Prop :=
  action.toNat ≤ 1 ∧ (if r.hasString then str.toNat ≤ 7 else str = 0xFF) ∧
    (if r = .cellMonitor then 1 ≤ count.toNat ∧ count.toNat ≤ 4 ∧ first.toNat + count.toNat ≤ 32
     else first = 0xFF ∧ count = 0x00)

section
variable {a role str first count action : Byte} {r : Role}

theorem indexOf?_isSome (n v : Nat) : (indexOf? n v).isSome = true ↔ v < n := by
  unfold indexOf?
  split <;> simp [*]

/-- What `readEntry` asks of the fields beside the role. -/
theorem entryInRange_iff : entryInRange str first count action r ↔
    (if r.hasString then (indexOf? 8 str.toNat).isSome else decide (str.toNat = 0xFF)) = true ∧
      (if r = .cellMonitor then
        first.toNat ≤ 31 ∧ 1 ≤ count.toNat ∧ count.toNat ≤ 4 ∧ first.toNat + count.toNat ≤ 32
       else first.toNat = 0xFF ∧ count.toNat = 0) ∧ action.toNat ≤ 1 := by
  have hff : ∀ b : Byte, b.toNat = 0xFF ↔ b = 0xFF := fun b => by rw [← BitVec.toNat_inj]; rfl
  have hzero : count.toNat = 0 ↔ count = 0x00 := by rw [← BitVec.toNat_inj]; rfl
  unfold entryInRange
  have hblock : (1 ≤ count.toNat ∧ count.toNat ≤ 4 ∧ first.toNat + count.toNat ≤ 32) ↔
      (first.toNat ≤ 31 ∧ 1 ≤ count.toNat ∧ count.toNat ≤ 4 ∧ first.toNat + count.toNat ≤ 32) := by omega
  by_cases hs : r.hasString = true
  · simp only [hs, if_true, indexOf?_isSome, Nat.lt_succ_iff, ← hblock, hff, hzero]
    exact ⟨fun ⟨ha, hs, hb⟩ => ⟨hs, hb, ha⟩, fun ⟨hs, hb, ha⟩ => ⟨ha, hs, hb⟩⟩
  · simp only [hs, ← hblock, hff, hzero, decide_eq_true_iff, Bool.false_eq_true, if_false]
    exact ⟨fun ⟨ha, hs, hb⟩ => ⟨hs, hb, ha⟩, fun ⟨hs, hb, ha⟩ => ⟨ha, hs, hb⟩⟩

theorem readEntry_role (hr : role.toNat = roleCode r) :
    (entryInRange str first count action r →
      readEntry a [role, str, first, count, action] = some (writtenEntry a str first count action r)) ∧
    (¬entryInRange str first count action r → readEntry a [role, str, first, count, action] = none) := by
  have haction : decide (action.toNat = 0) = decide (action = 0x00) := by
    rw [decide_eq_decide, ← BitVec.toNat_inj]; rfl
  rw [entryInRange_iff]
  unfold readEntry writtenEntry
  simp only [natField_cons_succ, natField_zero_one, hr, roleOf_roleCode, haction]
  constructor
  · intro h
    exact if_pos h
  · intro h
    exact if_neg h

theorem readEntry_unknown (h : 8 < role.toNat) : readEntry a [role, str, first, count, action] = none := by
  have hrole : roleOf role.toNat = none := by
    obtain ⟨m, hm⟩ : ∃ m, role.toNat = m + 9 := ⟨role.toNat - 9, by omega⟩
    rw [hm]
    rfl
  unfold readEntry
  simp only [natField_zero_one, hrole]

end

/-- Settles O18. -/
theorem sourceMapEntryWritten : Obligations.SourceMapEntryWritten := by
  refine ⟨fun s src rest a role str first count action hs => ?_, fun l e a => find?_insertEntry e a l⟩
  intro u answered named held swept overlaps bound inSite entry inRange deletable
  have hkind : requestKind [0x01, 0x02, a, role, str, first, count, action] = .writeSourceMap := rfl
  have hwrite := u.writeSourceMap_eq a role str first count action
  have refused : ∀ {c : ReplyCode}, u.writeSourceMap [a, role, str, first, count, action] = u.refuse c → answered u c :=
    fun h => congrArg Host.Outcome.next (hs.refused hkind h)
  have made : ∀ {t : State}, u.writeSourceMap [a, role, str, first, count, action] = ({ code := .ok }, t) →
      t.evalDue = u.evalDue → answered t .ok := fun h hdue => congrArg Host.Outcome.next (hs.takeRequest_eq hkind h hdue)
  refine ⟨fun h => refused (hwrite.trans ?_), fun haddr hrole => ?_, fun r haddr hrole => ?_⟩
  · by_cases haddr : isFieldAddr a = true
    · have hlt : 8 < role.toNat := h.resolve_left (by simp [haddr])
      rw [haddr, if_neg (by decide), if_neg (by omega), readEntry_unknown hlt]
      rfl
    · rw [if_pos (by simpa using haddr)]
  · subst hrole
    have hdelete : u.writeSourceMap [a, 0x00, str, first, count, action] =
        if deletionInRange [0x00, str, first, count, action] then u.deleteEntry a else u.refuse .badRange := by
      rw [hwrite, haddr]; rfl
    have hrange : deletable ↔ deletionInRange [0x00, str, first, count, action] = true :=
      (deletionInRange_iff 0x00 str first count action).symm
    rw [hrange]
    refine ⟨fun h => refused (hdelete.trans (if_neg h)), fun h hnone => ?_, fun e h he => ?_⟩
    · refine made (t := u) (hdelete.trans ((if_pos h).trans ?_)) rfl
      have hmapped : u.mapped a = none := hnone
      unfold State.deleteEntry
      rw [hmapped]
    · have hmapped : u.mapped a = some e := he
      have hentry : u.deleteEntry a = if u.deletionConflict e then u.refuse .badState
          else ({ code := .ok }, u.setMap (u.sourceMap.filter (·.addr ≠ a))) := by
        unfold State.deleteEntry
        rw [hmapped]
      have hconflict : named ∨ inSite ∨ bound ∨ held ∨ swept e ↔ u.deletionConflict e = true := by
        rw [State.deletionConflict_iff, State.mapped_addr he]
        rfl
      rw [hconflict]
      exact ⟨fun hc => refused (hdelete.trans ((if_pos h).trans (hentry.trans (if_pos hc)))),
        fun hc => made (hdelete.trans ((if_pos h).trans (hentry.trans (if_neg hc)))) rfl⟩
  · have hne : ¬role.toNat = 0 := by rw [hrole]; cases r <;> decide
    obtain ⟨hsome, hnone⟩ := readEntry_role (a := a) (str := str) (first := first) (count := count) (action := action) hrole
    have hread : u.writeSourceMap [a, role, str, first, count, action] =
        u.writeRead (readEntry a [role, str, first, count, action]) := by
      rw [hwrite, haddr, if_neg (by decide), if_neg hne]
    intro added unaddable
    have hover : overlaps (entry r) ↔ u.overlapsMap (entry r) = true := (u.overlapsMap_iff (entry r)).symm
    have hswept : ∀ e, swept e ↔ u.sweptMonitor e = true := fun e => (u.sweptMonitor_iff e).symm
    refine ⟨fun h => refused ?_, fun old h hold => ?_, fun h hold => ?_⟩
    · rw [hread, hnone h]; rfl
    · intro unamendable
      have hmapped : u.mapped (entry r).addr = some old := hold
      have hentry : u.writeSourceMap [a, role, str, first, count, action] =
          if old.role ≠ r then u.refuse .badState
          else if u.amendConflict old (entry r) then u.refuse .badState
          else ({ code := .ok }, u.setMap (insertEntry (entry r) u.sourceMap)) := by
        rw [hread, hsome h]
        show u.writeEntry (entry r) = _
        unfold State.writeEntry
        rw [hmapped]
      have hconflict : unamendable ↔ u.amendConflict old (entry r) = true := by
        rw [State.amendConflict_iff, ← hover, ← hswept, ← hswept]
        rfl
      rw [hconflict]
      refine ⟨fun hc => refused (hentry.trans ?_), fun hrole hc => made (hentry.trans ?_) rfl⟩
      · obtain hc | hc := hc
        · exact if_pos hc
        · exact ite_eq_left_iff.2 fun _ => if_pos hc
      · rw [if_neg (not_not.2 hrole), if_neg hc]
        rfl
    · have hmapped : u.mapped (entry r).addr = none := hold
      have hentry : u.writeSourceMap [a, role, str, first, count, action] =
          if u.additionConflict (entry r) then u.refuse .badState
          else ({ code := .ok }, (u.setMap (insertEntry (entry r) u.sourceMap)).holdNewValve (entry r)) := by
        rw [hread, hsome h]
        show u.writeEntry (entry r) = _
        unfold State.writeEntry
        rw [hmapped]
      have hconflict : unaddable ↔ u.additionConflict (entry r) = true := by
        rw [State.additionConflict_iff, ← hover, ← hswept]
        rfl
      rw [hconflict]
      refine ⟨fun hc => refused (hentry.trans (if_pos hc)), fun hc hno => made ((hentry.trans (if_neg hc)).trans ?_) rfl,
        fun hc hvalve hround => made ((hentry.trans (if_neg hc)).trans ?_) ?_⟩
      · have hholds : added.holdNewValve (entry r) = added := if_neg hno
        exact congrArg (Prod.mk _) hholds
      · have hholds : added.holdNewValve (entry r) = added.takeHold a .manifold := if_pos ⟨hvalve, hround⟩
        exact congrArg (Prod.mk _) hholds
      · rw [State.takeHold_eq]

end Sys2Proof.Machine
end

section
/-! PROOF. String Table writes (R30, R40, R69, R179): the refusals, what a write makes of the string's state, census and cells, and
which entries leave the list. -/

namespace Sys2Proof.Machine

open Sys2Proof

theorem stringBodyInRange_iff (body : List Byte) : stringBodyInRange body = true ↔
    natField body 0 1 ≤ 32 ∧ 10 ≤ natField body 1 2 ∧ natField body 1 2 ≤ 3000 ∧ natField body 3 1 ≤ 7 ∧ natField body 4 1 ≤ 7 ∧
      (natField body 5 2 = 0 ∨ (24 ≤ natField body 5 2 ∧ natField body 5 2 ≤ 8760)) ∧
      (natField body 7 4 = 0 ∨ (1000 ≤ natField body 7 4 ∧ natField body 7 4 ≤ 200000)) := by
  unfold stringBodyInRange
  simp only [Bool.and_eq_true, Bool.or_eq_true, inRange_iff, decide_eq_true_iff, zero_le, true_and, and_assoc]

theorem State.stringConflict_iff (s : State) (i : StringNo) (c : StringConfig) : s.stringConflict i c = true ↔
    ((s.str i).state ≠ .absent ∧ (s.str i).state ≠ .float) ∨
      ¬((c.cellCount = 0 ∧ c.switch = 0x00) ∨ s.mappedFor c.switch .switch i = true) ∨
      ¬((c.cellCount = 0 ∧ c.sensor = 0x00) ∨ s.mappedFor c.sensor .stringSensor i = true) := by
  unfold State.stringConflict
  by_cases h : c.cellCount = 0 <;> simp [h]

theorem State.writeString_badRange (s : State) {n : Byte} {body : List Byte}
    (h : 8 ≤ n.toNat ∨ ¬stringBodyInRange body = true) : s.writeString (n :: body) = s.refuse .badRange := by
  unfold State.writeString
  simp only [natField_zero_one, List.drop_succ_cons, List.drop_zero]
  split
  · rfl
  · rename_i i hi
    obtain h | h := h
    · rw [indexOf?_eq_none h] at hi; cases hi
    · rw [if_pos (by simpa using h)]

theorem State.writeString_eq (s : State) {n : Byte} {i : StringNo} (hn : n.toNat = i.val) {body : List Byte}
    (h : stringBodyInRange body = true) : s.writeString (n :: body) =
      if s.stringConflict i (readString body) then s.refuse .badState
      else ({ code := .ok }, s.applyString i (readString body)) := by
  unfold State.writeString
  simp only [natField_zero_one, hn, indexOf?_val, List.drop_succ_cons, List.drop_zero, h]
  rfl

/-! ## The string's state and census (R40, R82) -/

/-- What a write makes of a string beside its cells: `t` from `s`, in which the configuration still is the old one. -/
structure Refitted (i : StringNo) (c : StringConfig) (s t : State) : Prop where
  eq : t = { s with strings := t.strings, requests := t.requests, evalDue := t.evalDue }
  others : ∀ j, j ≠ i → t.str j = s.str j
  str : t.str i = { s.str i with cfg := c, state := (t.str i).state, presence := (t.str i).presence,
                                 censusStart := (t.str i).censusStart, lastArrival := (t.str i).lastArrival }
  stays : c.cellCount ≠ 0 → (s.str i).cfg.cellCount ≠ 0 → (t.str i).state = (s.str i).state
  census : c.cellCount ≠ 0 → (s.str i).cfg.cellCount ≠ 0 → c.sensor = (s.str i).cfg.sensor →
    (t.str i).presence = (s.str i).presence ∧ (t.str i).censusStart = (s.str i).censusStart ∧
      (t.str i).lastArrival = (s.str i).lastArrival
  restarted : c.cellCount ≠ 0 → (s.str i).cfg.cellCount = 0 ∨ c.sensor ≠ (s.str i).cfg.sensor →
    (t.str i).presence = .unknown ∧ (t.str i).censusStart = some s.second ∧ (t.str i).lastArrival = none
  floats : c.cellCount ≠ 0 → (s.str i).cfg.cellCount = 0 → (t.str i).state = .float
  leaves : c.cellCount = 0 → (s.str i).cfg.cellCount ≠ 0 →
    (t.str i).state = .absent ∧ (t.str i).presence = .unknown ∧ (t.str i).censusStart = none
  dropped : c.cellCount = 0 → (s.str i).cfg.cellCount ≠ 0 → t.requests = s.requests.filter (·.string ≠ i)
  listed : c.cellCount ≠ 0 ∨ (s.str i).cfg.cellCount = 0 → t.requests = s.requests

/-- The configuration is replaced. -/
def State.configured (s : State) (i : StringNo) (c : StringConfig) : State := s.modStr i fun r => { r with cfg := c }

theorem State.configured_modStr (s : State) (i : StringNo) (c : StringConfig) (f : StringRec → StringRec) :
    ((s.configured i c).modStr i f).str i = f { s.str i with cfg := c } ∧
      ∀ j, j ≠ i → ((s.configured i c).modStr i f).str j = s.str j := by
  unfold State.configured
  rw [State.modStr_modStr]
  exact ⟨s.str_modStr i _, fun j hj => s.str_modStr_ne i j _ hj⟩

theorem State.configured_str (s : State) (i : StringNo) (c : StringConfig) :
    (s.configured i c).str i = { s.str i with cfg := c } := s.str_modStr i _

theorem State.configured_str_ne (s : State) (i : StringNo) (c : StringConfig) {j : StringNo} (h : j ≠ i) :
    (s.configured i c).str j = s.str j := s.str_modStr_ne i j _ h

theorem State.refitString_configured (s : State) (i : StringNo) (c : StringConfig) :
    (s.configured i c).refitString i (s.str i).cfg =
      if c.cellCount = 0 then
        if (s.str i).cfg.cellCount = 0 then s.configured i c
        else ((s.configured i c).modStr i
          fun r => { r with state := .absent, presence := .unknown, censusStart := none }).dropString i
      else if (s.str i).cfg.cellCount = 0 then
        ((s.configured i c).modStr i fun r => { r.restartCensus s.second with state := .float }).trigger
      else if c.sensor = (s.str i).cfg.sensor then s.configured i c
      else (s.configured i c).modStr i fun r => r.restartCensus s.second := by
  have hfloat : ((s.configured i c).modStr i fun r => r.restartCensus s.second).enterFloat i =
      ((s.configured i c).modStr i fun r => { r.restartCensus s.second with state := .float }).trigger :=
    congrArg State.trigger ((s.configured i c).modStr_modStr i _ _)
  rw [← hfloat]
  unfold State.refitString
  simp only [s.configured_str i c]
  rfl

/-- The string record as the write leaves it, before its cells are brought into line. -/
def State.refit (s : State) (i : StringNo) (c : StringConfig) : State := (s.configured i c).refitString i (s.str i).cfg

theorem State.refitted (s : State) (i : StringNo) (c : StringConfig) : Refitted i c s (s.refit i c) := by
  unfold State.refit
  rw [State.refitString_configured]
  have hstr := s.configured_str i c
  have hne : ∀ j, j ≠ i → (s.configured i c).str j = s.str j := fun j hj => s.configured_str_ne i c hj
  split
  · rename_i unfit
    split
    · rename_i old
      exact ⟨rfl, hne, by rw [hstr], fun h => absurd unfit h, fun h => absurd unfit h, fun h => absurd unfit h,
        fun h => absurd unfit h, fun _ h => absurd old h, fun _ h => absurd old h, fun _ => rfl⟩
    · rename_i old
      obtain ⟨hi, hj⟩ := s.configured_modStr i c fun r => { r with state := .absent, presence := .unknown, censusStart := none }
      set w := (s.configured i c).modStr i fun r => { r with state := .absent, presence := .unknown, censusStart := none } with hw
      have hdrop : ∀ j, (w.dropString i).str j = w.str j := fun _ => rfl
      exact ⟨rfl, fun j h => (hdrop j).trans (hj j h), by rw [hdrop, hi], fun h => absurd unfit h, fun h => absurd unfit h,
        fun h => absurd unfit h, fun h => absurd unfit h, fun _ _ => by rw [hdrop, hi]; exact ⟨rfl, rfl, rfl⟩, fun _ _ => rfl,
        fun h => h.elim (absurd unfit) fun h => absurd h old⟩
  · rename_i fitted
    split
    · rename_i old
      obtain ⟨hi, hj⟩ := s.configured_modStr i c fun r => { r.restartCensus s.second with state := .float }
      set w := (s.configured i c).modStr i fun r => { r.restartCensus s.second with state := .float } with hw
      have htrigger : ∀ j, w.trigger.str j = w.str j := fun _ => rfl
      exact ⟨rfl, fun j h => (htrigger j).trans (hj j h), by rw [htrigger, hi]; rfl, fun _ h => absurd old h, fun _ h => absurd old h,
        fun _ _ => by rw [htrigger, hi]; exact ⟨rfl, rfl, rfl⟩, fun _ _ => by rw [htrigger, hi],
        fun h => absurd h fitted, fun h => absurd h fitted, fun _ => rfl⟩
    · rename_i old
      split
      · rename_i same
        exact ⟨rfl, hne, by rw [hstr], fun _ _ => by rw [hstr], fun _ _ _ => by rw [hstr]; exact ⟨rfl, rfl, rfl⟩,
          fun _ h => h.elim (fun h => absurd h old) (absurd same), fun _ h => absurd h old, fun h => absurd h fitted,
          fun h => absurd h fitted, fun _ => rfl⟩
      · rename_i moved
        obtain ⟨hi, hj⟩ := s.configured_modStr i c fun r => r.restartCensus s.second
        exact ⟨rfl, hj, by rw [hi]; rfl, fun _ _ => by rw [hi]; rfl, fun _ _ h => absurd h moved,
          fun _ _ => by rw [hi]; exact ⟨rfl, rfl, rfl⟩, fun _ h => absurd h old, fun h => absurd h fitted,
          fun h => absurd h fitted, fun _ => rfl⟩

/-! ## Positions that leave the fitted range (R30, R68) -/

/-- The position leaves the fitted range. -/
def leavesRange (old new : Nat) (p : Position) : Bool := new ≤ p.val && p.val < old

/-- The cells brought into line with a lower count. -/
def State.unfitted (s : State) (i : StringNo) (old new : Nat) : State :=
  s.modStr i fun r => r.mapCells fun p c => if leavesRange old new p then c.unfit else c

theorem State.unfitted_str (s : State) (i : StringNo) (old new : Nat) :
    (s.unfitted i old new).str i = (s.str i).mapCells fun p c => if leavesRange old new p then c.unfit else c :=
  s.str_modStr i _

theorem State.unfitted_str_ne (s : State) (i : StringNo) (old new : Nat) {j : StringNo} (h : j ≠ i) :
    (s.unfitted i old new).str j = s.str j := s.str_modStr_ne i j _ h

theorem State.unfitted_cell (s : State) (i : StringNo) (old new : Nat) (p : Position) :
    (s.unfitted i old new).cell i p = if leavesRange old new p then (s.cell i p).unfit else s.cell i p := by
  unfold State.cell
  rw [s.unfitted_str i, StringRec.cell_mapCells]

/-- A LEVEL qualifier of a position that leaves was LOW, and no fitted position is (R30, R68). -/
def State.withdraws (s : State) (i : StringNo) (old new : Nat) : Prop :=
  (∃ p, leavesRange old new p = true ∧ (s.cell i p).levelQ.state = true) ∧
    ∀ p : Position, p.val < new → (s.cell i p).level ≠ .low

theorem State.anyLow_eq_false (s : State) (i : StringNo) :
    s.anyLow i = false ↔ ∀ p : Position, p.val < (s.str i).cfg.cellCount → (s.cell i p).level ≠ .low := by
  simp [State.anyLow, State.fittedPos, mem_allPositions]

/-- The entry that R68 withdraws. -/
def Entry.levelOnly (e : Entry) (i : StringNo) : Bool := e.isFor i .watering && e.sources = onlyLevel

theorem State.withdrawalCheck_requests (s : State) (i : StringNo) :
    (s.withdrawalCheck i).requests = if s.anyLow i then s.requests else s.requests.filter (!·.levelOnly i) := by
  unfold State.withdrawalCheck
  split <;> rfl

theorem State.withdrawalCheck_eq (s : State) (i : StringNo) :
    s.withdrawalCheck i = { s with requests := (s.withdrawalCheck i).requests } := by
  unfold State.withdrawalCheck
  split <;> rfl

theorem State.unfitCells_eq (s : State) (i : StringNo) (old new : Nat) :
    ∃ due, s.unfitCells i old new = { s.unfitted i old new with
      requests := (s.unfitCells i old new).requests, evalDue := due } := by
  unfold State.unfitCells State.levelOkEvent
  dsimp only
  split
  · split
    · exact ⟨true, State.withdrawalCheck_eq _ i⟩
    · exact ⟨s.evalDue, State.withdrawalCheck_eq _ i⟩
  · split
    · exact ⟨true, rfl⟩
    · exact ⟨s.evalDue, rfl⟩

theorem State.unfitCells_requests (s : State) (i : StringNo) (old : Nat) {new : Nat} (fitted : (s.str i).cfg.cellCount = new) :
    (s.withdraws i old new → (s.unfitCells i old new).requests = s.requests.filter (!·.levelOnly i)) ∧
    (¬s.withdraws i old new → (s.unfitCells i old new).requests = s.requests) := by
  have hlow : ∀ t : State, t.strings = (s.unfitted i old new).strings →
      (t.anyLow i = false ↔ ∀ p : Position, p.val < new → (s.cell i p).level ≠ .low) := by
    intro t ht
    have hstr : t.str i = (s.unfitted i old new).str i := by unfold State.str; rw [ht]
    have hcfg : (t.str i).cfg.cellCount = new := by rw [hstr, s.unfitted_str i]; exact fitted
    rw [State.anyLow_eq_false, hcfg]
    refine forall_congr' fun p => imp_congr_right fun hp => ?_
    have hcell : t.cell i p = s.cell i p := by
      have hstays : leavesRange old new p = false := by simp [leavesRange, hp]
      have := s.unfitted_cell i old new p
      rw [hstays, if_neg Bool.false_ne_true] at this
      rw [← this]
      unfold State.cell
      rw [hstr]
    rw [hcell]
  have hwas : (∃ p, leavesRange old new p = true ∧ (s.cell i p).levelQ.state = true) ↔
      (allPositions.any fun p => leavesRange old new p && (s.cell i p).levelQ.state) = true := by
    simp [mem_allPositions]
  have hmain : ∀ t : State, t.strings = (s.unfitted i old new).strings → t.requests = s.requests →
      (s.withdraws i old new → (if (allPositions.any fun p => leavesRange old new p && (s.cell i p).levelQ.state) = true then
          t.withdrawalCheck i else t).requests = s.requests.filter (!·.levelOnly i)) ∧
      (¬s.withdraws i old new → (if (allPositions.any fun p => leavesRange old new p && (s.cell i p).levelQ.state) = true then
          t.withdrawalCheck i else t).requests = s.requests) := by
    intro t ht hr
    refine ⟨fun h => ?_, fun h => ?_⟩
    · rw [if_pos (hwas.1 h.1), State.withdrawalCheck_requests, (hlow t ht).2 h.2, hr]
      rfl
    · split
      · rename_i hw
        have hany : t.anyLow i = true := by
          rw [← Bool.not_eq_false]
          exact fun hf => h ⟨hwas.2 hw, (hlow t ht).1 hf⟩
        rw [State.withdrawalCheck_requests, hany, hr]
        rfl
      · exact hr
  refine hmain (if (allPositions.any fun p => leavesRange old new p && (s.cell i p).ot.state) = true then
    (s.unfitted i old new).trigger else s.unfitted i old new) ?_ ?_ <;> split <;> rfl

/-! ## The obligation -/

/-- What the write leaves for its evaluation. -/
def State.rewritten (s : State) (i : StringNo) (c : StringConfig) : State :=
  { ((s.refit i c).unfitCells i (s.str i).cfg.cellCount c.cellCount).emptyLatch i with
    evalDue := false }

theorem State.applyString_settle (s : State) (i : StringNo) (c : StringConfig) :
    (s.applyString i c).settle = (s.rewritten i c).evaluate := State.settle_due _ rfl

/-- The write, step by step: the record and its census, then the cells, then the latch. -/
theorem State.rewritten_eq (s : State) (i : StringNo) (c : StringConfig) :
    s.rewritten i c = { ((s.refit i c).unfitted i (s.str i).cfg.cellCount c.cellCount) with
      requests := ((s.refit i c).unfitCells i (s.str i).cfg.cellCount c.cellCount).requests,
      mgmt := { s.mgmt with latches := tset s.mgmt.latches i none }, evalDue := false } := by
  obtain ⟨due, h⟩ := (s.refit i c).unfitCells_eq i (s.str i).cfg.cellCount c.cellCount
  have hmgmt : (s.refit i c).mgmt = s.mgmt := by rw [(s.refitted i c).eq]
  unfold State.rewritten State.emptyLatch
  rw [h]
  dsimp only [State.unfitted, State.modStr_mgmt]
  rw [hmgmt]

theorem filter_unlisted (i : StringNo) (l : List Entry) :
    (l.filter (·.string ≠ i)).filter (!·.levelOnly i) = l.filter (·.string ≠ i) := by
  rw [List.filter_eq_self]
  intro e he
  have hne : e.string ≠ i := of_decide_eq_true (List.mem_filter.1 he).2
  simp [Entry.levelOnly, Entry.isFor, hne]

section
variable (s : State) (i : StringNo) (c : StringConfig)

theorem State.rewritten_str : (s.rewritten i c).str i = ((s.refit i c).str i).mapCells
    fun p x => if leavesRange (s.str i).cfg.cellCount c.cellCount p then x.unfit else x := by
  rw [State.rewritten_eq]
  exact (s.refit i c).unfitted_str i _ _

theorem State.rewritten_str_ne {j : StringNo} (h : j ≠ i) : (s.rewritten i c).str j = s.str j := by
  rw [State.rewritten_eq]
  exact ((s.refit i c).unfitted_str_ne i _ _ h).trans ((s.refitted i c).others j h)

theorem State.refit_cell (p : Position) : (s.refit i c).cell i p = s.cell i p := by
  unfold State.cell
  rw [(s.refitted i c).str]
  rfl

theorem State.rewritten_cell (p : Position) : (s.rewritten i c).cell i p =
    if leavesRange (s.str i).cfg.cellCount c.cellCount p then (s.cell i p).unfit else s.cell i p := by
  rw [State.rewritten_eq, ← s.refit_cell i c p]
  exact (s.refit i c).unfitted_cell i (s.str i).cfg.cellCount c.cellCount p

theorem State.rewritten_mgmt : (s.rewritten i c).mgmt = { s.mgmt with latches := tset s.mgmt.latches i none } := by
  rw [State.rewritten_eq]

theorem State.rewritten_frame : (s.rewritten i c).bays = s.bays ∧ (s.rewritten i c).holds = s.holds ∧
    (s.rewritten i c).fp = s.fp ∧ (s.rewritten i c).site = s.site ∧ (s.rewritten i c).sourceMap = s.sourceMap := by
  have h := (s.refitted i c).eq
  rw [State.rewritten_eq]
  dsimp only [State.unfitted, State.modStr_bays, State.modStr_holds, State.modStr_fp, State.modStr_site, State.modStr_sourceMap]
  rw [h]
  exact ⟨rfl, rfl, rfl, rfl, rfl⟩

theorem State.withdraws_refitted : (s.refit i c).withdraws i (s.str i).cfg.cellCount c.cellCount ↔
    s.withdraws i (s.str i).cfg.cellCount c.cellCount := by
  simp only [State.withdraws, State.refit_cell]

theorem State.rewritten_requests :
    (s.withdraws i (s.str i).cfg.cellCount c.cellCount →
      (s.rewritten i c).requests = (s.refit i c).requests.filter (!·.levelOnly i)) ∧
    (¬s.withdraws i (s.str i).cfg.cellCount c.cellCount → (s.rewritten i c).requests = (s.refit i c).requests) := by
  have hcount : ((s.refit i c).str i).cfg.cellCount = c.cellCount := by
    rw [(s.refitted i c).str]
  have heq : (s.rewritten i c).requests = ((s.refit i c).unfitCells i (s.str i).cfg.cellCount c.cellCount).requests := rfl
  rw [heq, ← State.withdraws_refitted]
  exact (s.refit i c).unfitCells_requests i (s.str i).cfg.cellCount hcount

variable {s i c}

theorem State.rewritten_unlisted (hc : c.cellCount = 0) (ho : (s.str i).cfg.cellCount ≠ 0) :
    (s.rewritten i c).requests = s.requests.filter (·.string ≠ i) := by
  have hdropped : (s.refit i c).requests = s.requests.filter (·.string ≠ i) := (s.refitted i c).dropped hc ho
  by_cases hwd : s.withdraws i (s.str i).cfg.cellCount c.cellCount
  · rw [(s.rewritten_requests i c).1 hwd, hdropped, filter_unlisted]
  · rw [(s.rewritten_requests i c).2 hwd, hdropped]

theorem State.rewritten_subset : (s.rewritten i c).requests ⊆ s.requests := by
  by_cases hc : c.cellCount ≠ 0 ∨ (s.str i).cfg.cellCount = 0
  · have hlisted : (s.refit i c).requests = s.requests := (s.refitted i c).listed hc
    by_cases hwd : s.withdraws i (s.str i).cfg.cellCount c.cellCount
    · rw [(s.rewritten_requests i c).1 hwd, hlisted]; exact List.filter_sublist.subset
    · rw [(s.rewritten_requests i c).2 hwd, hlisted]; exact fun _ h => h
  · push Not at hc
    rw [State.rewritten_unlisted hc.1 hc.2]
    exact List.filter_sublist.subset

end

/-- Settles O19. -/
theorem stringRecordWritten : Obligations.StringRecordWritten := by
  intro s src n rest body hbody hs u c inRange
  have hkind : requestKind ([0x01, 0x03, n] ++ body) = .writeString := if_pos ⟨rfl, by simp [hbody]⟩
  have hin : inRange ↔ stringBodyInRange body = true := (stringBodyInRange_iff body).symm
  rw [hin]
  refine ⟨fun h => congrArg Host.Outcome.next (hs.refused hkind (u.writeString_badRange h)), fun i hn hrange => ?_⟩
  intro old serves conflict leaves withdraws
  have hanswer := u.writeString_eq hn hrange
  have hconflict : conflict ↔ u.stringConflict i c = true := by
    rw [State.stringConflict_iff, State.mappedFor_iff, State.mappedFor_iff]
    rfl
  rw [hconflict]
  refine ⟨fun h => congrArg Host.Outcome.next (hs.refused hkind (hanswer.trans (if_pos h))), fun h => ?_⟩
  have hdone : exec .tableWriteString s = .next ((u.applyString i c).settle.sendReply src 0x01 { code := .ok }) :=
    congrArg Host.Outcome.next (hs.answered hkind (hanswer.trans (if_neg h)))
  rw [State.applyString_settle] at hdone
  have hleaves : ∀ p, leaves p ↔ leavesRange old.cellCount c.cellCount p = true := fun p => by simp [leaves, leavesRange]
  have hwithdraws : withdraws ↔ u.withdraws i old.cellCount c.cellCount := by
    simp only [withdraws, State.withdraws, hleaves]
    rfl
  have hfit : Refitted i c u (u.refit i c) := u.refitted i c
  have hstr := u.rewritten_str i c
  have hcell := u.rewritten_cell i c
  obtain ⟨hdrops, hkeeps⟩ := u.rewritten_requests i c
  obtain ⟨hbays, hholds, hfp, hsite, hmap⟩ := u.rewritten_frame i c
  have hmgmt := u.rewritten_mgmt i c
  have hgone := State.rewritten_unlisted (s := u) (i := i) (c := c)
  have hsub := State.rewritten_subset (s := u) (i := i) (c := c)
  have hothers := fun j => u.rewritten_str_ne i c (j := j)
  generalize u.rewritten i c = v at *
  have hgrants := Grants.evaluate v
  have hkept := Kept.evaluate v
  refine ⟨v, v.evaluate, rfl, hdone, fun p => ⟨fun hp => ?_, fun hp => ?_⟩, hgone, fun hc hwd => ?_,
    fun hwd hc => ?_, fun hc ho => ?_, hothers, hbays, hholds, hfp, ?_, ?_, hkept.site.trans hsite, hkept.sourceMap.trans hmap,
    fun hc ho e he => ?_, fun hnone => ?_⟩
  · exact (hcell p).trans (if_pos ((hleaves p).1 hp))
  · exact (hcell p).trans (if_neg fun e => hp ((hleaves p).2 e))
  · exact (hdrops (hwithdraws.1 hwd)).trans (congrArg _ (hfit.listed (.inl hc)))
  · exact (hkeeps fun e => hwd (hwithdraws.2 e)).trans (hfit.listed hc)
  · rw [hstr]
    exact ⟨hfit.stays hc ho, fun hmoved => hfit.restarted hc (.inr hmoved), fun hsame => hfit.census hc ho hsame⟩
  · rw [hkept.cfg, hstr]
    exact congrArg StringRec.cfg hfit.str
  · rw [hgrants.mgmt, hmgmt]
    exact tset_self _ i none
  · have hmem := hgrants.requests he
    rw [hgone hc ho] at hmem
    exact of_decide_eq_true (List.mem_filter.1 hmem).2
  · rw [hgrants.unlisted i fun e he => hnone e (hsub he), hstr]
    rw [hfit.str]
    refine ⟨rfl, rfl, rfl, rfl, rfl, fun hc ho => ?_, fun hc ho => hfit.leaves hc ho⟩
    exact ⟨hfit.floats hc ho, hfit.restarted hc (.inl ho)⟩

end Sys2Proof.Machine
end

section
/-! PROOF. The ends of a job (R84, R86, R100 to R109, R156): what they write of bay and string, what they send, and what they
leave. -/

namespace Sys2Proof.Machine

open Sys2Proof

@[simp] theorem State.bay_modStr (s : State) (i : StringNo) (f : StringRec → StringRec) (b : BayNo) :
    (s.modStr i f).bay b = s.bay b := rfl

@[simp] theorem State.str_modBay (s : State) (b : BayNo) (f : Bay → Bay) (i : StringNo) : (s.modBay b f).str i = s.str i := rfl

/-! ## The record of an end (R101, R102) -/

section
variable (s : State) (b : BayNo) (i : StringNo) (e : EndRec)

theorem State.recordEnd_eq : s.recordEnd b i e = s.modBay b fun r =>
    { r with ended := some e, endSpread := s.spreadOf i, peak := newPeak r.peak (maxTemp (s.freshCells i)) } := by
  unfold State.recordEnd State.notePeak
  rw [(SameReadings.modBay (i := i) (s := s) b _).freshCells, State.modBay_modBay]

/-- What the report of an end makes of the string (R64, R80). -/
def StringRec.reported (r : StringRec) (e : EndRec) (until_ : Nat) : StringRec :=
  if e.cls = .complete then { r with retryHold := none, age := 0 }
  else if e.cause = .cancelled ∨ e.cause = .restart then r
  else { r with retryHold := some until_ }

theorem State.modStr_id : (s.modStr i fun r => r) = s := by
  unfold State.modStr State.setStr State.str
  rw [tset_get]

theorem State.reportEnd_eq :
    s.reportEnd i e = s.modStr i fun r => r.reported e (s.minute + 60 * (s.profile i).retryDelay) := by
  unfold State.reportEnd StringRec.reported
  cases hcls : e.cls with
  | complete => rfl
  | abnormal =>
    simp only [reduceCtorEq, if_false]
    split
    · exact (s.modStr_id i).symm
    · rfl
  | changed =>
    simp only [reduceCtorEq, if_false]
    split
    · exact (s.modStr_id i).symm
    · rfl

end

/-- The report of an end writes the retry hold and the age. -/
theorem StringRec.reported_eq (r : StringRec) (e : EndRec) (u : Nat) :
    r.reported e u = { r with retryHold := (r.reported e u).retryHold, age := (r.reported e u).age } := by
  unfold StringRec.reported
  split
  · rfl
  · split <;> rfl

theorem StringRec.reported_complete {r : StringRec} {e : EndRec} (h : e.cls = .complete) (u : Nat) :
    (r.reported e u).age = 0 ∧ (r.reported e u).retryHold = none := by
  unfold StringRec.reported
  rw [if_pos h]
  exact ⟨rfl, rfl⟩

theorem StringRec.reported_held {r : StringRec} {e : EndRec} (hc : e.cls ≠ .complete) (hn : e.cause ≠ .cancelled)
    (hr : e.cause ≠ .restart) (u : Nat) : (r.reported e u).retryHold = some u := by
  unfold StringRec.reported
  rw [if_neg hc, if_neg (not_or.2 ⟨hn, hr⟩)]

theorem StringRec.reported_plain {r : StringRec} {e : EndRec} (hc : e.cls ≠ .complete)
    (h : e.cause = .cancelled ∨ e.cause = .restart) (u : Nat) : r.reported e u = r := by
  unfold StringRec.reported
  rw [if_neg hc, if_pos h]

/-! ## Ends that return to float by a transfer (R102) -/

/-- Bay and string as an end from TRANSFER_OUT, EQUALISING or HELD writes them, before the step is begun. -/
def State.backWritten (s : State) (b : BayNo) (i : StringNo) (e : EndRec) : State :=
  (s.modBay b fun r => { r with
      ended := some e, endSpread := s.spreadOf i, peak := newPeak r.peak (maxTemp (s.freshCells i)),
      window := .stopped, duration := .stopped, hold := .stopped, sample := .stopped, confirm := .stopped }).modStr i
    fun r => { r with state := .transferBack }

section
variable (s : State) (b : BayNo) (i : StringNo) (e : EndRec)

theorem State.backWritten_bay : (s.backWritten b i e).bay b = { s.bay b with
    ended := some e, endSpread := s.spreadOf i, peak := newPeak (s.bay b).peak (maxTemp (s.freshCells i)),
    window := .stopped, duration := .stopped, hold := .stopped, sample := .stopped, confirm := .stopped } := by
  unfold State.backWritten
  rw [State.bay_modStr, State.bay_modBay]

theorem State.backWritten_bay_ne {c : BayNo} (h : c ≠ b) : (s.backWritten b i e).bay c = s.bay c := by
  unfold State.backWritten
  rw [State.bay_modStr, State.bay_modBay_ne _ b c _ h]

theorem State.backWritten_str : (s.backWritten b i e).str i = { s.str i with state := .transferBack } :=
  State.str_modStr _ i fun r => { r with state := .transferBack }

theorem State.backWritten_str_ne {j : StringNo} (h : j ≠ i) : (s.backWritten b i e).str j = s.str j :=
  State.str_modStr_ne _ i j (fun r => { r with state := .transferBack }) h

/-- The two commands of an end: the charger OFF, then the switch to FLOAT. -/
theorem State.endToTransferBack_eq : s.endToTransferBack b i e = (s.backWritten b i e).beginStep b
    (.chargerOff s.site.charger b) (some (.switch (s.str i).cfg.switch .float)) := by
  have hwritten : ((s.recordEnd b i e).modBay b fun r =>
      { r with window := .stopped, duration := .stopped, hold := .stopped, sample := .stopped, confirm := .stopped }).modStr i
      (fun r => { r with state := .transferBack }) = s.backWritten b i e := by
    rw [State.recordEnd_eq, State.modBay_modBay]
    rfl
  have hstep : s.endToTransferBack b i e = (s.backWritten b i e).backStep b i := by
    rw [← hwritten]
    rfl
  have hcfg : ((s.backWritten b i e).str i).cfg = (s.str i).cfg := by rw [s.backWritten_str]
  rw [hstep]
  unfold State.backStep
  rw [hcfg]
  rfl

theorem State.endToTransferBack_step : BayStep b (s.backWritten b i e) (s.endToTransferBack b i e) := by
  rw [State.endToTransferBack_eq]
  exact .beginStep b _ _ _

end

/-- What an end from TRANSFER_OUT, EQUALISING or HELD makes of the part (R102). -/
structure BackEnded (s t : State) (b : BayNo) (i : StringNo) (e : EndRec) : Prop where
  str : t.str i = { s.str i with state := .transferBack }
  others : ∀ j, j ≠ i → t.str j = s.str j
  bay : t.bay b = { s.bay b with
    ended := some e, endSpread := s.spreadOf i, peak := newPeak (s.bay b).peak (maxTemp (s.freshCells i)),
    window := .stopped, duration := .stopped, hold := .stopped, sample := .stopped,
    confirm := (t.bay b).confirm, second := (t.bay b).second }
  bays : ∀ c, c ≠ b → t.bay c = s.bay c
  eq : t = { s with fp := t.fp, strings := t.strings, bays := t.bays }
  taken : s.offersBut b = [] → s.fp.chain.localQ.length < 7 →
    (t.bay b).confirm = .running s.site.confirmTime ∧ t.fp = { s.fp with
      offers := [],
      chain := (s.fp.chain.pushLocal (cmdFrame s.own (.chargerOff s.site.charger b))).pushLocal
        (cmdFrame s.own (.switch (s.str i).cfg.switch .float)) }
  waiting : ¬s.stepRoom b → (t.bay b).confirm = .stopped ∧
    (t.bay b).second = some (.switch (s.str i).cfg.switch .float) ∧
    t.fp = { s.fp with offers := s.offersBut b ++ [⟨.bay b, .chargerOff s.site.charger b⟩] }

theorem State.endToTransferBack_ends (s : State) (b : BayNo) (i : StringNo) (e : EndRec) :
    BackEnded s (s.endToTransferBack b i e) b i e := by
  have hstep := s.endToTransferBack_step b i e
  have heq := s.endToTransferBack_eq b i e
  refine ⟨by rw [hstep.str, s.backWritten_str], fun j hj => by rw [hstep.str, s.backWritten_str_ne b i e hj], ?_,
    fun c hc => by rw [hstep.others c hc, s.backWritten_bay_ne b i e hc], ?_, fun hoffers hlt => ?_, fun hfull => ?_⟩
  · rw [hstep.bay, s.backWritten_bay]
  · rw [hstep.eq]; rfl
  · have hroom : (s.backWritten b i e).stepRoom b := ⟨hoffers, Nat.lt_succ_of_lt hlt⟩
    have hsent := State.sent_length (s.backWritten b i e) (.chargerOff s.site.charger b)
    have hlen : (s.backWritten b i e).fp.chain.localQ.length < 7 := hlt
    obtain ⟨hfp, hbay⟩ := State.beginStep_two hroom (c := .chargerOff s.site.charger b) rfl
      (.switch (s.str i).cfg.switch .float) (by omega)
    rw [heq, hfp, hbay]
    exact ⟨rfl, rfl⟩
  · have hwait : ¬(s.backWritten b i e).stepRoom b := hfull
    obtain ⟨hfp, hbay⟩ := State.beginStep_waits hwait (.chargerOff s.site.charger b)
      (some (.switch (s.str i).cfg.switch .float))
    rw [heq, hfp, hbay, s.backWritten_bay]
    exact ⟨rfl, rfl, rfl⟩

theorem State.endJob_back {s : State} {b : BayNo} {i : StringNo} {st : StringState} (names : (s.bay b).string = some i)
    (state : (s.str i).state = st) (h : st ∈ [StringState.transferOut, .equalising, .held]) (e : EndRec) :
    s.endJob b e = s.endToTransferBack b i e := by
  unfold State.endJob
  rw [names]
  simp only [List.mem_cons, List.not_mem_nil, or_false] at h
  obtain rfl | rfl | rfl := h <;> simp only [state]

theorem State.endJob_baseline {s : State} {b : BayNo} {i : StringNo} (names : (s.bay b).string = some i)
    (state : (s.str i).state = .baseline) (e : EndRec) :
    s.endJob b e = s.endInBaseline b i e (s.elapsed (s.str i).startMinute) := by
  unfold State.endJob
  rw [names]
  simp only [state]

theorem State.endJob_ignored {s : State} {b : BayNo} {i : StringNo} (names : (s.bay b).string = some i)
    (h : (s.str i).state ∉ [StringState.baseline, .transferOut, .equalising, .held]) (e : EndRec) : s.endJob b e = s := by
  unfold State.endJob
  rw [names]
  cases hs : (s.str i).state <;> simp [hs] at h ⊢

theorem State.endJob_unnamed {s : State} {b : BayNo} (names : (s.bay b).string = none) (e : EndRec) : s.endJob b e = s := by
  unfold State.endJob
  rw [names]

/-! ## Freeing a bay (R101, R103, R107, R156) -/

/-- The holds that are left when a bay is freed: the switch hold goes, and the charger hold with it when no other bay is out of
FREE. -/
def State.freedHolds (s : State) (b : BayNo) (i : StringNo) : List Hold :=
  let held := s.holds.filter (· ≠ ⟨(s.str i).cfg.switch, .switch i⟩)
  if (∀ c, c ≠ b → (s.bay c).state = .free) then held.filter (· ≠ ⟨s.site.charger, .charger⟩) else held

theorem State.freeBay_eq (s : State) (b : BayNo) (i : StringNo) : s.freeBay b i =
    { (s.setBay b {}).modStr i fun r => { r with bay := none } with holds := s.freedHolds b i, evalDue := true } := by
  have hfree : ((((s.releaseHold (s.str i).cfg.switch (.switch i)).setBay b {}).modStr i
      fun r => { r with bay := none }).trigger).baysFree = true ↔ ∀ c, c ≠ b → (s.bay c).state = .free := by
    rw [State.baysFree_iff]
    have hbay : ∀ c, ((((s.releaseHold (s.str i).cfg.switch (.switch i)).setBay b {}).modStr i
        fun r => { r with bay := none }).trigger).bay c = if c = b then {} else s.bay c := by
      intro c
      split
      · rename_i h; subst h; exact State.bay_setBay _ c {}
      · rename_i h; exact State.bay_setBay_ne _ b c {} h
    refine forall_congr' fun c => ?_
    rw [hbay]
    by_cases h : c = b <;> simp [h]
  unfold State.freeBay State.freedHolds
  dsimp only
  split
  · rename_i h
    rw [if_pos (hfree.1 h)]
    rfl
  · rename_i h
    rw [if_neg fun hf => h (hfree.2 hf)]
    rfl

theorem State.freeBay_bay (s : State) (b : BayNo) (i : StringNo) : (s.freeBay b i).bay b = {} := by
  rw [State.freeBay_eq]
  exact s.bay_setBay b {}

theorem State.freeBay_bay_ne (s : State) (b : BayNo) (i : StringNo) {c : BayNo} (h : c ≠ b) :
    (s.freeBay b i).bay c = s.bay c := by
  rw [State.freeBay_eq]
  exact s.bay_setBay_ne b c {} h

theorem State.freeBay_str (s : State) (b : BayNo) (i : StringNo) : (s.freeBay b i).str i = { s.str i with bay := none } := by
  rw [State.freeBay_eq]
  exact (s.setBay b {}).str_modStr i fun r => { r with bay := none }

theorem State.freeBay_str_ne (s : State) (b : BayNo) (i : StringNo) {j : StringNo} (h : j ≠ i) :
    (s.freeBay b i).str j = s.str j := by
  rw [State.freeBay_eq]
  exact (s.setBay b {}).str_modStr_ne i j (fun r => { r with bay := none }) h

/-- Holds that a freed bay does not have are kept. -/
theorem State.mem_freedHolds {s : State} {b : BayNo} {i : StringNo} {h : Hold} (mem : h ∈ s.holds)
    (switch : h ≠ ⟨(s.str i).cfg.switch, .switch i⟩)
    (charger : h = ⟨s.site.charger, .charger⟩ → ∃ c, c ≠ b ∧ (s.bay c).state ≠ .free) : h ∈ s.freedHolds b i := by
  unfold State.freedHolds
  dsimp only
  have hheld : h ∈ s.holds.filter (· ≠ ⟨(s.str i).cfg.switch, .switch i⟩) := List.mem_filter.2 ⟨mem, decide_eq_true switch⟩
  split
  · rename_i hfree
    refine List.mem_filter.2 ⟨hheld, decide_eq_true fun e => ?_⟩
    obtain ⟨c, hc, hbusy⟩ := charger e
    exact hbusy (hfree c hc)
  · exact hheld

theorem State.switch_notMem_freedHolds (s : State) (b : BayNo) (i : StringNo) :
    ⟨(s.str i).cfg.switch, .switch i⟩ ∉ s.freedHolds b i := by
  intro h
  have hmem : (⟨(s.str i).cfg.switch, .switch i⟩ : Hold) ∈ s.holds.filter (· ≠ ⟨(s.str i).cfg.switch, .switch i⟩) := by
    unfold State.freedHolds at h
    dsimp only at h
    split at h
    · exact (List.mem_filter.1 h).1
    · exact h
  exact of_decide_eq_true (List.mem_filter.1 hmem).2 rfl

theorem State.charger_notMem_freedHolds {s : State} {b : BayNo} (free : ∀ c, c ≠ b → (s.bay c).state = .free) (i : StringNo) :
    ⟨s.site.charger, .charger⟩ ∉ s.freedHolds b i := by
  intro h
  unfold State.freedHolds at h
  rw [if_pos free] at h
  exact of_decide_eq_true (List.mem_filter.1 h).2 rfl

/-! ## The result of a job (R109) -/

/-- The end that the result of a job carries. -/
def Bay.endOf (r : Bay) : EndRec := r.ended.getD ⟨.abnormal, .none⟩

theorem Bay.endOf_some {r : Bay} {e : EndRec} (h : r.ended = some e) : r.endOf = e := by
  unfold Bay.endOf
  rw [h]
  rfl

theorem State.postEqualise_eq (s : State) (b : BayNo) (i : StringNo) (isolated : Bool) (elapsed : Nat) :
    s.postEqualise b i isolated elapsed =
      (s.post (s.equaliseResult b i isolated elapsed)).modStr i
        fun r => r.reported (s.bay b).endOf (s.minute + 60 * (s.profile i).retryDelay) := by
  have hpost : (s.post (s.equaliseResult b i isolated elapsed)).minute = s.minute ∧
      (s.post (s.equaliseResult b i isolated elapsed)).profile i = s.profile i := by
    rw [State.post_eq]; exact ⟨rfl, rfl⟩
  unfold State.postEqualise
  rw [State.reportEnd_eq, hpost.1, hpost.2]
  rfl

/-- What a posting of a job's result leaves: it writes the Frame Path, the Result Queue, and of the string the retry hold and the
age. -/
structure EqualisePosted (s t : State) (i : StringNo) (r : Result) (e : EndRec) : Prop where
  eq : t = { s with fp := t.fp, strings := t.strings, mgmt := t.mgmt }
  str : t.str i = (s.str i).reported e (s.minute + 60 * (s.profile i).retryDelay)
  others : ∀ j, j ≠ i → t.str j = s.str j
  results : t.mgmt = { s.mgmt with results := queueResult s.mgmt.results r }
  chain : t.fp.chain = s.fp.chain ∧ t.fp.offers = s.fp.offers

theorem State.postEqualise_posted (s : State) (b : BayNo) (i : StringNo) (isolated : Bool) (elapsed : Nat) {e : EndRec}
    (ended : (s.bay b).endOf = e) :
    EqualisePosted s (s.postEqualise b i isolated elapsed) i (s.equaliseResult b i isolated elapsed) e := by
  rw [s.postEqualise_eq b i isolated elapsed, ended]
  generalize s.equaliseResult b i isolated elapsed = r
  have hpost := s.post_eq r
  have hstr : ∀ j, (s.post r).str j = s.str j := fun j => by rw [hpost]; rfl
  refine ⟨?_, ?_, fun j hj => ?_, s.post_mgmt r, ?_⟩
  · unfold State.modStr State.setStr
    rw [hpost]
  · rw [State.str_modStr, hstr]
  · rw [State.str_modStr_ne _ i j _ hj, hstr]
  · rw [State.modStr_fp, State.post_offerUp]
    exact State.offerUp_chain _ _

end Sys2Proof.Machine
end

section
/-! PROOF. Jobs that end in BASELINE, switches that fail, and the obligations on expiries, isolation and the judgement of a window
(R84, R90 to R94, R101 to R109). -/

namespace Sys2Proof.Machine

open Sys2Proof

/-! ## What the fan leaves when a string leaves the bay states (R120) -/

theorem FanMove.exitStr (u : State) (j : StringNo) : u.noteBayExit.str j = u.str j := (FanMove.noteBayExit u).str j
theorem FanMove.exitBay (u : State) (c : BayNo) : u.noteBayExit.bay c = u.bay c := (FanMove.noteBayExit u).bay c
theorem FanMove.exitMgmt (u : State) : u.noteBayExit.mgmt = u.mgmt := (FanMove.noteBayExit u).mgmt
theorem FanMove.exitHolds (u : State) (h : Hold) (hh : h.holder ≠ .fan) : h ∈ u.noteBayExit.holds ↔ h ∈ u.holds :=
  (FanMove.noteBayExit u).holds h hh

theorem FanMove.exitGas (u : State) :
    u.noteBayExit.gas = { u.gas with bayStrings := u.gas.bayStrings - 1, fan := u.noteBayExit.gas.fan,
                                     runOn := u.noteBayExit.gas.runOn } := (FanMove.noteBayExit u).gas

theorem FanMove.exitEq (u : State) :
    u.noteBayExit = { u with fp := u.noteBayExit.fp, gas := u.noteBayExit.gas, holds := u.noteBayExit.holds } :=
  (FanMove.noteBayExit u).eq

/-! ## A job that ends in BASELINE (R101) -/

/-- The result of a job that ends in BASELINE. -/
def State.baselineResult (s : State) (b : BayNo) (i : StringNo) (e : EndRec) (elapsed : Nat) : Result :=
  { string := i, cls := e.cls, cause := e.cause, reduced := (s.bay b).reduced, isolated := false,
    startMinute := (s.str i).startMinute, elapsed := elapsed,
    part := .equalise (s.bay b).eqSetpoint ((s.bay b).limit / 100) (centiAh (s.str i).jobCharge) (s.bay b).startSpread
      (s.spreadOf i) (newPeak (s.bay b).peak (maxTemp (s.freshCells i))) (s.bay b).plateau }

theorem State.equaliseResult_recordEnd (s : State) (b : BayNo) (i : StringNo) (e : EndRec) (elapsed : Nat) :
    (s.recordEnd b i e).equaliseResult b i false elapsed = s.baselineResult b i e elapsed := by
  unfold State.equaliseResult State.baselineResult
  rw [State.recordEnd_eq]
  simp only [State.bay_modBay, State.str_modBay]
  rfl

/-- What an end in BASELINE makes of the part (R101). -/
structure BaseEnded (s t : State) (b : BayNo) (i : StringNo) (e : EndRec) (elapsed : Nat) : Prop where
  str : t.str i = { (s.str i).reported e (s.minute + 60 * (s.profile i).retryDelay) with bay := none, state := .float }
  others : ∀ j, j ≠ i → t.str j = s.str j
  bay : t.bay b = {}
  bays : ∀ c, c ≠ b → t.bay c = s.bay c
  gas : t.gas = { s.gas with bayStrings := s.gas.bayStrings - 1, fan := t.gas.fan, runOn := t.gas.runOn }
  holds : ∀ h : Hold, h.holder ≠ .fan → (h ∈ t.holds ↔ h ∈ s.freedHolds b i)
  mgmt : t.mgmt = { s.mgmt with results := queueResult s.mgmt.results (s.baselineResult b i e elapsed) }
  eq : t = { s with fp := t.fp, strings := t.strings, bays := t.bays, gas := t.gas, holds := t.holds, mgmt := t.mgmt,
                    evalDue := true }

/-- Switches and bays that are the same free the same holds. -/
theorem State.freedHolds_congr {s t : State} {b : BayNo} {i : StringNo} (holds : t.holds = s.holds) (site : t.site = s.site)
    (cfg : (t.str i).cfg = (s.str i).cfg) (bays : ∀ c, c ≠ b → t.bay c = s.bay c) : t.freedHolds b i = s.freedHolds b i := by
  have hfree : (∀ c, c ≠ b → (t.bay c).state = .free) ↔ ∀ c, c ≠ b → (s.bay c).state = .free :=
    forall_congr' fun c => forall_congr' fun hc => by rw [bays c hc]
  unfold State.freedHolds
  rw [holds, site, cfg]
  simp only [hfree]

theorem State.enterFloat_str (s : State) (i : StringNo) : (s.enterFloat i).str i = { s.str i with state := .float } :=
  s.str_modStr i fun r => { r with state := .float }

theorem State.enterFloat_str_ne (s : State) (i : StringNo) {j : StringNo} (h : j ≠ i) : (s.enterFloat i).str j = s.str j :=
  s.str_modStr_ne i j (fun r => { r with state := .float }) h

theorem State.enterFloat_bay (s : State) (i : StringNo) (b : BayNo) : (s.enterFloat i).bay b = s.bay b := rfl

theorem State.enterFloat_eq (s : State) (i : StringNo) :
    s.enterFloat i = { s with strings := (s.enterFloat i).strings, evalDue := true } := rfl

theorem State.freeBay_frame (s : State) (b : BayNo) (i : StringNo) : s.freeBay b i =
    { s with strings := (s.freeBay b i).strings, bays := (s.freeBay b i).bays, holds := s.freedHolds b i, evalDue := true } := by
  rw [State.freeBay_eq]
  rfl

/-- The state in which a string that ends in BASELINE is told to GS. -/
def State.baselineFreed (s : State) (b : BayNo) (i : StringNo) (e : EndRec) (elapsed : Nat) : State :=
  (((s.recordEnd b i e).postEqualise b i false elapsed).freeBay b i).enterFloat i

theorem State.endInBaseline_freed (s : State) (b : BayNo) (i : StringNo) (e : EndRec) (elapsed : Nat) :
    s.endInBaseline b i e elapsed = (s.baselineFreed b i e elapsed).noteBayExit := rfl

section
variable (s : State) (b : BayNo) (i : StringNo) (e : EndRec) (elapsed : Nat)

/-- The posting of a job that ends in BASELINE. -/
theorem State.baseline_posted : EqualisePosted (s.recordEnd b i e) ((s.recordEnd b i e).postEqualise b i false elapsed) i
    (s.baselineResult b i e elapsed) e := by
  have hended : ((s.recordEnd b i e).bay b).endOf = e := Bay.endOf_some (by rw [State.recordEnd_eq, State.bay_modBay])
  have h := State.postEqualise_posted (s.recordEnd b i e) b i false elapsed hended
  rwa [State.equaliseResult_recordEnd] at h

theorem State.recordEnd_str (j : StringNo) : (s.recordEnd b i e).str j = s.str j := by
  rw [State.recordEnd_eq, State.str_modBay]

theorem State.recordEnd_bay_ne {c : BayNo} (h : c ≠ b) : (s.recordEnd b i e).bay c = s.bay c := by
  rw [State.recordEnd_eq, State.bay_modBay_ne _ b c _ h]

theorem EqualisePosted.bay {s t : State} {i : StringNo} {r : Result} {e : EndRec} (h : EqualisePosted s t i r e) (c : BayNo) :
    t.bay c = s.bay c := by
  have : t.bays = s.bays := by rw [h.eq]
  unfold State.bay
  rw [this]

theorem EqualisePosted.str_fields {s t : State} {i : StringNo} {r : Result} {e : EndRec} (h : EqualisePosted s t i r e) :
    t.str i = { s.str i with retryHold := (t.str i).retryHold, age := (t.str i).age } := by
  rw [h.str]
  exact StringRec.reported_eq _ _ _

theorem State.baselineFreed_holds : (s.baselineFreed b i e elapsed).holds = s.freedHolds b i := by
  have hposted := s.baseline_posted b i e elapsed
  have hfreed : (s.baselineFreed b i e elapsed).holds = ((s.recordEnd b i e).postEqualise b i false elapsed).freedHolds b i := by
    unfold State.baselineFreed
    rw [State.enterFloat_eq, State.freeBay_frame]
  rw [hfreed]
  refine State.freedHolds_congr ?_ ?_ ?_ fun c hc => ?_
  · rw [hposted.eq, State.recordEnd_eq, State.modBay_holds]
  · rw [hposted.eq, State.recordEnd_eq, State.modBay_site]
  · rw [hposted.str_fields, s.recordEnd_str]
  · rw [hposted.bay, s.recordEnd_bay_ne b i e hc]

theorem State.baselineFreed_str : (s.baselineFreed b i e elapsed).str i =
    { (s.str i).reported e (s.minute + 60 * (s.profile i).retryDelay) with bay := none, state := .float } := by
  have hposted := s.baseline_posted b i e elapsed
  have hreads : SameReadings i s (s.recordEnd b i e) := by rw [State.recordEnd_eq]; exact .modBay b _
  have hminute : (s.recordEnd b i e).minute = s.minute := by unfold State.minute; rw [hreads.clock]
  unfold State.baselineFreed
  rw [State.enterFloat_str, State.freeBay_str, hposted.str, s.recordEnd_str, hminute, hreads.profile]

theorem State.baselineFreed_eq : s.baselineFreed b i e elapsed = { s with
    fp := (s.baselineFreed b i e elapsed).fp, strings := (s.baselineFreed b i e elapsed).strings,
    bays := (s.baselineFreed b i e elapsed).bays, holds := (s.baselineFreed b i e elapsed).holds,
    mgmt := { s.mgmt with results := queueResult s.mgmt.results (s.baselineResult b i e elapsed) }, evalDue := true } := by
  have hposted := s.baseline_posted b i e elapsed
  have hmgmt : (s.baselineFreed b i e elapsed).mgmt = ((s.recordEnd b i e).postEqualise b i false elapsed).mgmt := by
    unfold State.baselineFreed
    rw [State.enterFloat_eq, State.freeBay_frame]
  have hrecord : (s.recordEnd b i e).mgmt = s.mgmt := by rw [State.recordEnd_eq, State.modBay_mgmt]
  have hfinal := hposted.results
  rw [hrecord] at hfinal
  rw [← hfinal, ← hmgmt]
  unfold State.baselineFreed
  rw [State.enterFloat_eq, State.freeBay_frame, hposted.eq, State.recordEnd_eq]
  rfl

theorem State.endInBaseline_ends : BaseEnded s (s.endInBaseline b i e elapsed) b i e elapsed := by
  rw [State.endInBaseline_freed]
  have hposted := s.baseline_posted b i e elapsed
  have heq := s.baselineFreed_eq b i e elapsed
  have hstr := s.baselineFreed_str b i e elapsed
  have hholds := s.baselineFreed_holds b i e elapsed
  have hothers : ∀ j, j ≠ i → (s.baselineFreed b i e elapsed).str j = s.str j := fun j hj => by
    unfold State.baselineFreed
    rw [State.enterFloat_str_ne _ i hj, State.freeBay_str_ne _ b i hj, hposted.others j hj, s.recordEnd_str]
  have hbay : (s.baselineFreed b i e elapsed).bay b = {} := by
    unfold State.baselineFreed
    rw [State.enterFloat_bay, State.freeBay_bay]
  have hbays : ∀ c, c ≠ b → (s.baselineFreed b i e elapsed).bay c = s.bay c := fun c hc => by
    unfold State.baselineFreed
    rw [State.enterFloat_bay, State.freeBay_bay_ne _ b i hc, hposted.bay, s.recordEnd_bay_ne b i e hc]
  generalize s.baselineFreed b i e elapsed = u at *
  have hgas : u.gas = s.gas := by rw [heq]
  have hmgmt : u.mgmt = { s.mgmt with results := queueResult s.mgmt.results (s.baselineResult b i e elapsed) } := by rw [heq]
  refine ⟨?_, fun j hj => ?_, ?_, fun c hc => ?_, ?_, fun h hh => ?_, ?_, ?_⟩
  · rw [FanMove.exitStr, hstr]
  · rw [FanMove.exitStr, hothers j hj]
  · rw [FanMove.exitBay, hbay]
  · rw [FanMove.exitBay, hbays c hc]
  · rw [← hgas]; exact FanMove.exitGas u
  · rw [FanMove.exitHolds u h hh, hholds]
  · rw [FanMove.exitMgmt, hmgmt]
  · rw [FanMove.exitEq u, heq]

end

/-- An end in BASELINE is what the obligations call one. -/
theorem BaseEnded.endsInBaseline {s t : State} {b : BayNo} {i : StringNo} {e : EndRec} {elapsed : Nat}
    (h : BaseEnded s t b i e elapsed) : EndsInBaseline s t b i e where
  float := by rw [h.str]
  unbound := by rw [h.str]
  free := h.bay
  switchHold hm := s.switch_notMem_freedHolds b i ((h.holds ⟨(s.str i).cfg.switch, .switch i⟩ nofun).1 hm)
  chargerHold hfree hm := State.charger_notMem_freedHolds hfree i ((h.holds ⟨s.site.charger, .charger⟩ nofun).1 hm)
  kept x hx hfan hswitch hcharger := (h.holds x hfan).2 (State.mem_freedHolds hx hswitch hcharger)
  counted := by rw [h.gas]
  posted := by
    refine ⟨s.baselineResult b i e elapsed, _, ?_, rfl, rfl, rfl, rfl, rfl, rfl, rfl⟩
    rw [h.mgmt]
    exact queueResult_getLast? _ _

section
variable {s t : State} {b : BayNo} {i : StringNo} {e : EndRec} {elapsed : Nat}

theorem BaseEnded.evalDue (h : BaseEnded s t b i e elapsed) : t.evalDue = true := by rw [h.eq]
theorem BaseEnded.requests (h : BaseEnded s t b i e elapsed) : t.requests = s.requests := by rw [h.eq]
theorem BaseEnded.water (h : BaseEnded s t b i e elapsed) : t.water = s.water := by rw [h.eq]

theorem BaseEnded.retryHold (h : BaseEnded s t b i e elapsed) (hc : e.cls ≠ .complete) (hn : e.cause ≠ .cancelled)
    (hr : e.cause ≠ .restart) : (t.str i).retryHold = some (s.minute + 60 * (s.profile i).retryDelay) := by
  rw [h.str]
  exact StringRec.reported_held hc hn hr _

theorem BaseEnded.str_plain (h : BaseEnded s t b i e elapsed) (hc : e.cls ≠ .complete)
    (hp : e.cause = .cancelled ∨ e.cause = .restart) : t.str i = { s.str i with bay := none, state := .float } := by
  rw [h.str, StringRec.reported_plain hc hp]

theorem BackEnded.fields (h : BackEnded s t b i e) : t.holds = s.holds ∧ t.mgmt = s.mgmt ∧ t.requests = s.requests ∧
    t.gas = s.gas ∧ t.water = s.water ∧ t.evalDue = s.evalDue := by
  rw [h.eq]
  exact ⟨rfl, rfl, rfl, rfl, rfl, rfl⟩

end

end Sys2Proof.Machine
end

section
/-! PROOF. The obligations on the ends of a job: the four expiries and the charger fault, a failed switch, a switch report that
confirms, and a window (R88 to R108). -/

namespace Sys2Proof.Machine

open Sys2Proof

/-- An action that triggers no evaluation ends as it stands. -/
theorem State.settle_quiet {s : State} (h : s.evalDue = false) : s.settle = s := by
  unfold State.settle
  rw [h]
  rfl

/-! ## The moments of a bay's timers (R85) -/

section
variable {s : State} {b : BayNo} {i : StringNo} {st : StringState} {timer : Bay → Timer} {states : List StringState}

theorem Working.expiring (h : Working s b i st) (due : timer (s.bay b) = .running 0) (mem : st ∈ states) :
    s.expiring b timer states = some i :=
  State.expiring_eq_some.2 ⟨(Timer.due_iff _).2 due, h.names, by rw [h.state]; exact mem⟩

theorem State.expiring_early (h : timer (s.bay b) ≠ .running 0) : s.expiring b timer states = none := by
  cases he : s.expiring b timer states with
  | none => rfl
  | some i => exact absurd ((Timer.due_iff _).1 (State.expiring_eq_some.1 he).1) h

end

/-- A job that ends by a transfer is as O40 asks. -/
theorem BackEnded.ended {s t : State} {b : BayNo} {i : StringNo} {st : StringState} {e : EndRec} (h : BackEnded s t b i e)
    (hw : Working s b i st) :
    (t.str i).state = .transferBack ∧ (t.bay b).ended = some e ∧ (t.bay b).endSpread = s.spreadOf i ∧
      (t.bay b).state = .busy ∧ (t.bay b).limit = (s.bay b).limit ∧ (t.bay b).sample = .stopped ∧
      (t.bay b).window = .stopped ∧ (t.bay b).duration = .stopped ∧ (t.bay b).hold = .stopped ∧
      (s.fp.offers = [] → s.fp.chain.localQ.length < 7 →
        (t.bay b).confirm = .running s.site.confirmTime ∧ t.fp.offers = [] ∧
        t.fp.chain = (s.fp.chain.pushLocal (cmdFrame s.own (.chargerOff s.site.charger b))).pushLocal
          (cmdFrame s.own (.switch (s.str i).cfg.switch .float))) ∧
      (8 ≤ s.fp.chain.localQ.length → (t.bay b).confirm = .stopped ∧
        t.fp.offers = s.fp.offers.filter (·.activity ≠ .bay b) ++ [⟨.bay b, .chargerOff s.site.charger b⟩]) ∧
      t.holds = s.holds ∧ t.mgmt = s.mgmt ∧ t.requests = s.requests ∧ t.gas = s.gas ∧ t.water = s.water ∧
      (t.str i).retryHold = (s.str i).retryHold ∧ (t.str i).age = (s.str i).age ∧ (∀ j, j ≠ i → t.str j = s.str j) ∧
      (∀ c, c ≠ b → t.bay c = s.bay c) := by
  obtain ⟨hholds, hmgmt, hrequests, hgas, hwater, -⟩ := h.fields
  refine ⟨by rw [h.str], by rw [h.bay], by rw [h.bay], by rw [h.bay]; exact hw.busy, by rw [h.bay], by rw [h.bay], by rw [h.bay],
    by rw [h.bay], by rw [h.bay], fun hoffers hlt => ?_, fun hfull => ?_, hholds, hmgmt, hrequests, hgas, hwater, by rw [h.str],
    by rw [h.str], h.others, h.bays⟩
  · have hbut : s.offersBut b = [] := by unfold State.offersBut; rw [hoffers]; rfl
    obtain ⟨hconfirm, hfp⟩ := h.taken hbut hlt
    rw [hconfirm, hfp]
    exact ⟨rfl, rfl, rfl⟩
  · obtain ⟨hconfirm, -, hfp⟩ := h.waiting fun hroom => absurd hroom.2 hfull.not_gt
    rw [hconfirm, hfp]
    exact ⟨rfl, rfl⟩

theorem indexOf?_two {output : Nat} (h : 2 ≤ output) : indexOf? 2 output = none := indexOf?_eq_none h

/-- Settles O40. -/
theorem expiryEndsJob : Obligations.ExpiryEndsJob := by
  intro s b i st hw hquiet ended ends
  have hends : ∀ (e : EndRec), st ∈ [StringState.transferOut, .equalising, .held] → ended (s.endJob b e) e ∧
      (s.endJob b e).settle = s.endJob b e := fun e hst => by
    rw [State.endJob_back hw.names hw.state hst]
    have h := s.endToTransferBack_ends b i e
    exact ⟨h.ended hw, State.settle_quiet (h.fields.2.2.2.2.2.trans hquiet)⟩
  have hact : ∀ (e : EndRec) (c : Instr), st ∈ [StringState.transferOut, .equalising, .held] →
      exec c s = .next (s.endJob b e).settle → ends c e := fun e c hst hexec => by
    obtain ⟨hend, hsettle⟩ := hends e hst
    exact ⟨s.endJob b e, by rw [hexec, hsettle], hend⟩
  refine ⟨fun src output code => ⟨fun hno => ?_, fun hsrc hcode houtput => ?_⟩, fun hst hdue => ?_, fun hst hdue => ?_,
    fun hst hdue => ?_, fun hst hdue => ?_, fun hearly => ?_, fun hearly => ?_, fun hearly => ?_, fun hearly => ?_⟩
  · unfold State.chargerReported
    split
    · rfl
    · rename_i c hc
      refine if_neg fun ⟨hsrc, hcode, hbusy⟩ => ?_
      obtain h | h | h | ⟨d, hd, hfree⟩ := hno
      · exact h hsrc
      · exact h hcode
      · rw [indexOf?_two h] at hc; cases hc
      · rw [hd, indexOf?_val] at hc
        obtain rfl := Option.some.inj hc
        exact hfree hbusy
  · have hreport : s.chargerReported src output code = s.endJob b ⟨.abnormal, .charger⟩ := by
      unfold State.chargerReported
      rw [houtput, indexOf?_val]
      exact if_pos ⟨hsrc, hcode, hw.busy⟩
    rw [hreport]
    refine ⟨fun hst => (hends _ hst).1, fun hst => ?_, fun hst => ?_⟩
    · rw [State.endJob_baseline hw.names (hw.state.trans hst)]
      have h := s.endInBaseline_ends b i ⟨.abnormal, .charger⟩ (s.elapsed (s.str i).startMinute)
      exact ⟨h.endsInBaseline, h.evalDue, h.requests, h.retryHold nofun nofun nofun, h.others, h.bays⟩
    · exact State.endJob_ignored hw.names (by rw [hw.state]; exact hst) _
  · refine hact _ _ (by simp [hst]) ?_
    show execConfirmExpiryOut b s = _
    unfold execConfirmExpiryOut
    rw [hw.expiring hdue (by simp [hst])]
  · refine hact _ _ (by obtain h | h := hst <;> simp [h]) ?_
    show execSampleTimerExpiry b s = _
    unfold execSampleTimerExpiry
    rw [hw.expiring hdue (by obtain h | h := hst <;> simp [h])]
  · refine hact _ _ (by simp [hst]) ?_
    show execDurationExpiry b s = _
    unfold execDurationExpiry
    rw [hw.expiring hdue (by simp [hst])]
  · refine hact _ _ (by simp [hst]) ?_
    show execHoldTimerExpiry b s = _
    unfold execHoldTimerExpiry
    rw [hw.expiring hdue (by simp [hst])]
  · show execConfirmExpiryOut b s = _
    unfold execConfirmExpiryOut
    rw [State.expiring_early hearly]
  · show execSampleTimerExpiry b s = _
    unfold execSampleTimerExpiry
    rw [State.expiring_early hearly]
  · show execDurationExpiry b s = _
    unfold execDurationExpiry
    rw [State.expiring_early hearly]
  · show execHoldTimerExpiry b s = _
    unfold execHoldTimerExpiry
    rw [State.expiring_early hearly]

/-! ## Isolation (R104, R105) -/

/-- The result of a job carries its end. -/
theorem State.equaliseResult_ended (s : State) {b : BayNo} {e : EndRec} (i : StringNo) (isolated : Bool) (elapsed : Nat)
    (ended : (s.bay b).ended = some e) :
    (s.equaliseResult b i isolated elapsed).cls = e.cls ∧ (s.equaliseResult b i isolated elapsed).cause = e.cause := by
  unfold State.equaliseResult
  dsimp only
  rw [ended]
  exact ⟨rfl, rfl⟩

/-- What a bay and its string are as the switch is commanded open. -/
structure Isolating (s w : State) (b : BayNo) (i : StringNo) (e : EndRec) : Prop where
  gas : w.gas = s.gas
  site : w.site = s.site
  holds : w.holds = s.holds
  str : w.str i = { s.str i with state := .isolated }
  state : (w.bay b).state = .blocked
  string : (w.bay b).string = (s.bay b).string
  limit : (w.bay b).limit = (s.bay b).limit
  confirm : (w.bay b).confirm = .stopped
  ended : (w.bay b).ended = some e

/-- The result of an isolation is posted, and GS told of the string that left. -/
theorem Isolating.isolate {s w : State} {b : BayNo} {i : StringNo} {e : EndRec} (h : Isolating s w b i e)
    (names : (s.bay b).string = some i) (named : (s.str i).bay = some b) {commanded : State → Prop}
    (sent : ∀ u : State, u.fp.chain = w.fp.chain → u.fp.offers = w.fp.offers → u.bay b = w.bay b → commanded u) :
    (∃ u : State, commanded u ∧ u.gas = s.gas ∧ u.site = s.site ∧ w.isolate b i = u.noteBayExit.noteIsolated) ∧
      ((w.isolate b i).str i).state = .isolated ∧ ((w.isolate b i).bay b).state = .blocked ∧
      ((w.isolate b i).bay b).string = some i ∧ ((w.isolate b i).str i).bay = some b ∧
      ((w.isolate b i).bay b).ended = some e ∧ ((w.isolate b i).bay b).limit = (s.bay b).limit ∧
      ((w.isolate b i).bay b).confirm = .stopped ∧
      (∃ r, (w.isolate b i).mgmt.results.getLast? = some r ∧ r.string = i ∧ r.cls = e.cls ∧ r.cause = e.cause ∧
        r.isolated = true ∧ r.startMinute = (s.str i).startMinute) ∧
      (w.isolate b i).gas.isolated = s.gas.isolated + 1 ∧ (w.isolate b i).gas.stat = true ∧
      (w.isolate b i).gas.bayStrings = s.gas.bayStrings - 1 ∧
      (∀ h ∈ s.holds, h.holder ≠ .fan → h ∈ (w.isolate b i).holds) ∧
      (e.cls = .complete → ((w.isolate b i).str i).age = 0 ∧ ((w.isolate b i).str i).retryHold = none) := by
  have hposted := w.postEqualise_posted b i true (w.elapsed (w.str i).startMinute) (Bay.endOf_some h.ended)
  have heq : w.isolate b i = (w.postEqualise b i true (w.elapsed (w.str i).startMinute)).noteBayExit.noteIsolated := rfl
  have hresult : ∀ n, (w.equaliseResult b i true n).cls = e.cls ∧ (w.equaliseResult b i true n).cause = e.cause ∧
      (w.equaliseResult b i true n).startMinute = (s.str i).startMinute := fun n => by
    obtain ⟨hcls, hcause⟩ := w.equaliseResult_ended i true n h.ended
    exact ⟨hcls, hcause, show (w.str i).startMinute = _ by rw [h.str]⟩
  rw [heq]
  generalize w.postEqualise b i true (w.elapsed (w.str i).startMinute) = u at hposted ⊢
  have hgas : u.gas = s.gas := by rw [hposted.eq]; exact h.gas
  have hsite : u.site = s.site := by rw [hposted.eq]; exact h.site
  have hholds : u.holds = s.holds := by rw [hposted.eq]; exact h.holds
  have hbay := hposted.bay b
  have hstr : ∀ j, u.noteBayExit.noteIsolated.str j = u.str j := FanMove.exitStr u
  have hbays : u.noteBayExit.noteIsolated.bay b = w.bay b := (FanMove.exitBay u b).trans hbay
  have hfinal : u.noteBayExit.noteIsolated.gas = ({ u.noteBayExit.gas with isolated := u.noteBayExit.gas.isolated + 1 } : Gas).driveStat :=
    rfl
  have hexit := FanMove.exitGas u
  have hmgmt : u.noteBayExit.noteIsolated.mgmt = u.mgmt := FanMove.exitMgmt u
  rw [hstr, hbays, hmgmt, hposted.results]
  obtain ⟨hcls, hcause, hstart⟩ := hresult (w.elapsed (w.str i).startMinute)
  refine ⟨⟨u, sent u hposted.chain.1 hposted.chain.2 hbay, hgas, hsite, rfl⟩, ?_, h.state, h.string.trans names, ?_, h.ended,
    h.limit, h.confirm, ⟨_, queueResult_getLast? _ _, rfl, hcls, hcause, rfl, hstart⟩, ?_, ?_, ?_, fun x hx hfan => ?_, fun hc => ?_⟩
  · rw [hposted.str_fields, h.str]
  · rw [hposted.str_fields, h.str]; exact named
  · rw [hfinal, hexit, hgas]; rfl
  · rw [hfinal]
    simp [Gas.driveStat]
  · rw [hfinal, hexit, hgas]; rfl
  · exact (FanMove.exitHolds u x hfan).2 (by rw [hholds]; exact hx)
  · rw [hposted.str]
    exact StringRec.reported_complete hc _

theorem State.isolate_evalDue (s : State) (b : BayNo) (i : StringNo) : (s.isolate b i).evalDue = s.evalDue :=
  (Quiet.noteBayExit _).due.trans (Quiet.postEqualise s b i true _).due

/-- Bay and string as the expiry of the confirm timer in TRANSFER_BACK leaves them (R104). -/
def State.backFailed (s : State) (b : BayNo) (i : StringNo) : State :=
  (s.modStr i fun r => { r with state := .isolated }).modBay b fun r => { r with state := .blocked, confirm := .stopped }

/-- Bay and string as a SWITCH_REPORT FAULT leaves them (R105). -/
def State.switchFailed (s : State) (b : BayNo) (i : StringNo) : State :=
  (s.modBay b fun r =>
    { r with state := .blocked, confirm := .stopped, sample := .stopped, window := .stopped, duration := .stopped,
             hold := .stopped }).modStr i fun r => { r with state := .isolated }

section
variable (s : State) (b : BayNo) (i : StringNo)

theorem State.confirmBackExpired_eq : s.confirmBackExpired b i =
    ((s.backFailed b i).beginStep b (.switch (s.str i).cfg.switch .opened) none).isolate b i := by
  have hcfg : ((s.backFailed b i).str i).cfg = (s.str i).cfg := by
    unfold State.backFailed
    rw [State.str_modBay, State.str_modStr]
  rw [← hcfg]
  rfl

theorem State.switchFailed_str : (s.switchFailed b i).str i = { s.str i with state := .isolated } :=
  State.str_modStr _ i fun r => { r with state := .isolated }

theorem State.switchFailed_bay : (s.switchFailed b i).bay b = { s.bay b with
    state := .blocked, confirm := .stopped, sample := .stopped, window := .stopped, duration := .stopped, hold := .stopped } := by
  unfold State.switchFailed
  rw [State.bay_modStr, State.bay_modBay]

/-- The record of the end that a failed switch makes, unless the job had ended (R105). -/
def State.faultRecorded (s : State) (b : BayNo) (i : StringNo) : State :=
  if (s.str i).state = .transferBack then s else s.recordEnd b i ⟨.abnormal, .switchFault⟩

theorem State.faultRecorded_eq : s.faultRecorded b i = { s with bays := (s.faultRecorded b i).bays } := by
  unfold State.faultRecorded
  split
  · rfl
  · rw [State.recordEnd_eq]
    rfl

theorem State.faultRecorded_bay : (s.faultRecorded b i).bay b = { s.bay b with
    ended := ((s.faultRecorded b i).bay b).ended, endSpread := ((s.faultRecorded b i).bay b).endSpread,
    peak := ((s.faultRecorded b i).bay b).peak } := by
  unfold State.faultRecorded
  split
  · rfl
  · rw [State.recordEnd_eq, State.bay_modBay]

theorem State.switchFault_eq : s.switchFault b i =
    (((s.faultRecorded b i).switchFailed b i).beginStep b (.chargerOff s.site.charger b)
      (some (.switch (s.str i).cfg.switch .opened))).isolate b i := by
  have hrecorded : (s.faultRecorded b i).str i = s.str i ∧ (s.faultRecorded b i).site = s.site := by
    unfold State.faultRecorded
    split
    · exact ⟨rfl, rfl⟩
    · exact ⟨s.recordEnd_str b i _ i, by rw [State.recordEnd_eq]; rfl⟩
  have hcfg : (((s.faultRecorded b i).switchFailed b i).str i).cfg = (s.str i).cfg := by
    rw [State.switchFailed_str, hrecorded.1]
  rw [← hcfg, ← hrecorded.2]
  rfl

end

/-- A step of a bay leaves what an isolation reads. -/
theorem Isolating.step {s v w : State} {b : BayNo} {i : StringNo} {e : EndRec} (h : Isolating s v b i e) (step : BayStep b v w)
    (confirm : (w.bay b).confirm = .stopped) : Isolating s w b i e where
  gas := step.gas.trans h.gas
  site := step.site.trans h.site
  holds := step.holds.trans h.holds
  str := (step.str i).trans h.str
  state := by rw [step.bay]; exact h.state
  string := by rw [step.bay]; exact h.string
  limit := by rw [step.bay]; exact h.limit
  confirm := confirm
  ended := by rw [step.bay]; exact h.ended

theorem State.switchReported_fault {s : State} {b : BayNo} {i : StringNo} {st : StringState} (hw : Working s b i st)
    (h : st ∈ [StringState.baseline, .transferOut, .equalising, .held, .transferBack]) {m : MapEntry} (string : m.string = some i)
    (addr : m.addr = (s.str i).cfg.switch) : s.switchReported m .fault = s.switchFault b i := by
  unfold State.switchReported
  simp only [string, addr, if_true, hw.named, hw.state]
  simp only [List.mem_cons, List.not_mem_nil, or_false] at h
  obtain rfl | rfl | rfl | rfl | rfl := h <;> rfl


/-- Settles O41: the step that opens the switch, and then the isolation. -/
theorem failedSwitchIsolates : Obligations.FailedSwitchIsolates := by
  intro s b i st hw others room off opening afterOff opened offAndOpened isolated
  have hmono : ∀ {t e P Q}, isolated t e P → (∀ u, P u → Q u) → isolated t e Q :=
    fun ⟨⟨u, hu, hrest⟩, h⟩ himp => ⟨⟨u, himp u hu, hrest⟩, h⟩
  have hfault : ∀ e, ((s.faultRecorded b i).bay b).ended = some e → isolated (s.switchFault b i) e fun u => offAndOpened u ∧
      ∀ timer ∈ [Bay.sample, Bay.window, Bay.duration, Bay.hold], timer (u.bay b) = .stopped := by
    intro e hended
    set v := (s.faultRecorded b i).switchFailed b i with hv
    have hrecord := s.faultRecorded_eq b i
    have hbay := (s.faultRecorded b i).switchFailed_bay b i
    rw [s.faultRecorded_bay b i] at hbay
    have hfields : v.fp = s.fp ∧ v.own = s.own ∧ v.gas = s.gas ∧ v.site = s.site ∧ v.holds = s.holds := by
      rw [hv, hrecord]; exact ⟨rfl, rfl, rfl, rfl, rfl⟩
    obtain ⟨hfp, hown, hgas, hsite, hholds⟩ := hfields
    have hstr : (s.faultRecorded b i).str i = s.str i := by rw [hrecord]; rfl
    have hfailed : Isolating s v b i e := ⟨hgas, hsite, hholds, by rw [hv, State.switchFailed_str, hstr], by rw [hbay],
      by rw [hbay], by rw [hbay], by rw [hbay], by rw [hbay]; exact hended⟩
    have hstep := BayStep.beginStep b v off (some opening)
    have hroomIff : v.stepRoom b ↔ room := by unfold State.stepRoom State.offersBut; rw [hfp]
    have hsent : v.sent off = afterOff := by unfold State.sent; rw [hfp, hown]
    have htwo := fun h hlt => State.beginStep_two (s := v) (b := b) h (c := off) rfl opening hlt
    have hhalf := fun h hfull => State.beginStep_half (s := v) (b := b) h (c := off) rfl opening hfull
    have hwaits := fun h => State.beginStep_waits (s := v) (b := b) h off (some opening)
    rw [hsent, hown, hfp] at htwo
    rw [hsent, hfp] at hhalf
    rw [hfp] at hwaits
    have hconfirm : ((v.beginStep b off (some opening)).bay b).confirm = .stopped := by
      by_cases h : v.stepRoom b
      · by_cases hlt : afterOff.localQ.length < 8
        · rw [(htwo h hlt).2]; exact hfailed.confirm
        · rw [(hhalf h (not_lt.1 hlt)).2]; exact hfailed.confirm
      · rw [(hwaits h).2]; exact hfailed.confirm
    rw [State.switchFault_eq]
    refine (hfailed.step hstep hconfirm).isolate hw.names hw.named (commanded := fun u => offAndOpened u ∧
      ∀ timer ∈ [Bay.sample, Bay.window, Bay.duration, Bay.hold], timer (u.bay b) = .stopped) fun u hchain hoffers hub =>
      ⟨⟨fun hroom hlt => ?_, fun hroom hfull => ?_, fun hroom => ?_⟩, fun timer htimer => ?_⟩
    · obtain ⟨hsentFp, hsentBay⟩ := htwo (hroomIff.2 hroom) hlt
      rw [hchain, hoffers, hub, hsentFp, hsentBay]
      exact ⟨rfl, rfl, rfl⟩
    · obtain ⟨hsentFp, hsentBay⟩ := hhalf (hroomIff.2 hroom) hfull
      rw [hchain, hoffers, hub, hsentFp, hsentBay]
      exact ⟨rfl, rfl, rfl⟩
    · obtain ⟨hsentFp, hsentBay⟩ := hwaits fun h => hroom (hroomIff.1 h)
      rw [hchain, hoffers, hub, hsentFp, hsentBay]
      unfold State.offersBut
      rw [hfp]
      exact ⟨rfl, rfl, rfl⟩
    · rw [hub, hstep.bay, hbay]
      simp only [List.mem_cons, List.not_mem_nil, or_false] at htimer
      obtain rfl | rfl | rfl | rfl := htimer <;> rfl
  refine ⟨fun e hst hended hdue hquiet => ?_, fun m hstring haddr => ⟨fun e hst hended => ?_, fun hst => ?_⟩, fun hearly => ?_⟩
  · have hbay : (s.backFailed b i).bay b = { s.bay b with state := .blocked, confirm := .stopped } :=
      State.bay_modBay _ b fun r => { r with state := .blocked, confirm := .stopped }
    have hfailed : Isolating s (s.backFailed b i) b i e :=
      ⟨rfl, rfl, rfl, by unfold State.backFailed; rw [State.str_modBay, State.str_modStr], by rw [hbay], by rw [hbay],
        by rw [hbay], by rw [hbay], by rw [hbay]; exact hended⟩
    have hstep := BayStep.beginStep b (s.backFailed b i) opening none
    have hone := fun h => State.beginStep_one (s := s.backFailed b i) (b := b) h opening
    have hwaits := fun h => State.beginStep_waits (s := s.backFailed b i) (b := b) h opening none
    have hconfirm : (((s.backFailed b i).beginStep b opening none).bay b).confirm = .stopped := by
      by_cases h : (s.backFailed b i).stepRoom b
      · rw [(hone h).2]; exact hfailed.confirm
      · rw [(hwaits h).2]; exact hfailed.confirm
    refine ⟨_, ?_, (hfailed.step hstep hconfirm).isolate hw.names hw.named (commanded := opened) fun u hchain hoffers _ =>
      ⟨fun hroom => ?_, fun hroom => ?_⟩⟩
    · show execConfirmExpiryBack b s = _
      unfold execConfirmExpiryBack
      have hquiet' : (s.confirmBackExpired b i).evalDue = false := by
        rw [State.confirmBackExpired_eq, State.isolate_evalDue, hstep.evalDue]
        exact hquiet
      rw [hw.expiring hdue (by simp [hst])]
      dsimp only
      rw [State.settle_quiet hquiet', State.confirmBackExpired_eq]
    · rw [hchain, hoffers, (hone hroom).1]; exact ⟨rfl, rfl⟩
    · rw [hchain, hoffers, (hwaits hroom).1]; exact ⟨rfl, rfl⟩
  · have hrecord : s.faultRecorded b i = s := if_pos (hw.state.trans hst)
    rw [State.switchReported_fault hw (by simp [hst]) hstring haddr]
    exact hmono (hfault e (by rw [hrecord]; exact hended)) fun _ h => h.1
  · have hnot : ¬(s.str i).state = .transferBack := by
      rw [hw.state]
      intro e
      rw [e] at hst
      exact absurd hst (by decide)
    have hrecord : s.faultRecorded b i = s.recordEnd b i ⟨.abnormal, .switchFault⟩ := if_neg hnot
    rw [State.switchReported_fault hw (by simp only [List.mem_cons, List.not_mem_nil, or_false] at hst ⊢; tauto) hstring haddr]
    exact hfault _ (by rw [hrecord, State.recordEnd_eq, State.bay_modBay])
  · show execConfirmExpiryBack b s = _
    unfold execConfirmExpiryBack
    rw [State.expiring_early hearly]

end Sys2Proof.Machine
end

section
/-! PROOF. The reports that confirm a switch, and the windows of a job (R88 to R93, R103). -/

namespace Sys2Proof.Machine

open Sys2Proof

/-! ## A setpoint that is commanded (R86, R93) -/

theorem State.setpointStep_step (s : State) (b : BayNo) : BayStep b s (s.setpointStep b) := .beginStep b s _ _

/-- A command of the charger starts no confirm timer. -/
theorem State.setpointStep_confirm (s : State) (b : BayNo) : ((s.setpointStep b).bay b).confirm = (s.bay b).confirm := by
  unfold State.setpointStep
  by_cases h : s.stepRoom b
  · rw [(State.beginStep_one h (s.chargerOn b)).2]; rfl
  · rw [(State.beginStep_waits h (s.chargerOn b) none).2]

/-! ## The transfer is confirmed (R89) -/

/-- Bay and string as the confirmation of a transfer writes them, before the gas state is looked at. -/
def State.outConfirmed (s : State) (b : BayNo) (i : StringNo) : State :=
  (s.modStr i StringRec.clearOv).modBay b fun r =>
    { r with confirm := .stopped, sample := .running s.site.sampleTimeout, prevMean := none, plateau := 0, count := 0, sum := 0 }

section
variable (s : State) (b : BayNo) (i : StringNo)

theorem State.outConfirmed_bay : (s.outConfirmed b i).bay b = { s.bay b with
    confirm := .stopped, sample := .running s.site.sampleTimeout, prevMean := none, plateau := 0, count := 0, sum := 0 } :=
  (s.modStr i StringRec.clearOv).bay_modBay b fun r =>
    { r with confirm := .stopped, sample := .running s.site.sampleTimeout, prevMean := none, plateau := 0, count := 0, sum := 0 }

theorem State.outConfirmed_str : (s.outConfirmed b i).str i = (s.str i).clearOv := s.str_modStr i _

theorem StringRec.clearOv_ov (r : StringRec) (q : Position) : (r.clearOv.cell q).ov = {} := by
  unfold StringRec.clearOv
  rw [StringRec.cell_mapCells]

/-- A string that is EQUALISING. -/
def State.outRunning (s : State) (b : BayNo) (i : StringNo) (p : Profile) : State :=
  ((s.outConfirmed b i).modBay b fun r =>
    { r with duration := .running (p.maxDuration * 60), window := .running (p.window * 60) }).modStr i
      fun r => { r with state := .equalising }

/-- A string that is HELD, before its setpoint is commanded. -/
def State.outHeld (s : State) (b : BayNo) (i : StringNo) (p : Profile) : State :=
  ((s.outConfirmed b i).modBay b fun r =>
    { r with duration := .paused (p.maxDuration * 60), window := .paused (p.window * 60),
             hold := .running (s.site.holdLimit * 60), setpoint := (s.outConfirmed b i).heldOf i }).modStr i
      fun r => { r with state := .held }

theorem State.confirmOut_eq : s.confirmOut b i =
    if s.gas.state = .normal then s.outRunning b i (s.profile i) else (s.outHeld b i (s.profile i)).setpointStep b := rfl

theorem State.outRunning_bay (p : Profile) : (s.outRunning b i p).bay b =
    { (s.outConfirmed b i).bay b with duration := .running (p.maxDuration * 60), window := .running (p.window * 60) } := by
  unfold State.outRunning
  rw [State.bay_modStr, State.bay_modBay]

theorem State.outHeld_bay (p : Profile) : (s.outHeld b i p).bay b =
    { (s.outConfirmed b i).bay b with
      duration := .paused (p.maxDuration * 60), window := .paused (p.window * 60),
      hold := .running (s.site.holdLimit * 60), setpoint := (s.outConfirmed b i).heldOf i } := by
  unfold State.outHeld
  rw [State.bay_modStr, State.bay_modBay]

theorem State.outRunning_str (p : Profile) : (s.outRunning b i p).str i = { (s.str i).clearOv with state := .equalising } := by
  unfold State.outRunning
  rw [State.str_modStr, State.str_modBay, State.outConfirmed_str]

theorem State.outHeld_str (p : Profile) : (s.outHeld b i p).str i = { (s.str i).clearOv with state := .held } := by
  unfold State.outHeld
  rw [State.str_modStr, State.str_modBay, State.outConfirmed_str]

theorem State.outConfirmed_heldOf :
    (s.outConfirmed b i).heldOf i = (s.profile i).floatV * (s.str i).cfg.cellCount / 10 := by
  have hcfg : ((s.outConfirmed b i).str i).cfg = (s.str i).cfg := by rw [State.outConfirmed_str]; rfl
  have hprofile : (s.outConfirmed b i).profile i = s.profile i := by
    unfold State.profile
    simp only [hcfg]
    rfl
  unfold State.heldOf heldCmd
  rw [hcfg, hprofile]

end

/-! ## The return to float is confirmed (R66, R103) -/

theorem State.settlingCheck_eq (s : State) (i : StringNo) :
    s.settlingCheck i = { s with requests := (s.settlingCheck i).requests, evalDue := (s.settlingCheck i).evalDue } := by
  unfold State.settlingCheck State.autoRaise
  split
  · split <;> rfl
  · rfl

theorem State.startSettle_eq (s : State) (i : StringNo) (n : Nat) : s.startSettle i n =
    { s with strings := (s.startSettle i n).strings, evalDue := (s.startSettle i n).evalDue } := by
  unfold State.startSettle
  split <;> rfl

theorem State.startSettle_str (s : State) (i : StringNo) (n : Nat) : (s.startSettle i n).str i =
    if n = 0 then { s.str i with state := .float } else { s.str i with state := .settling, settle := .running n } := by
  unfold State.startSettle
  split
  · exact s.enterFloat_str i
  · exact s.str_modStr i _

/-- The bay with its confirm timer stopped. -/
def State.backConfirmed (s : State) (b : BayNo) : State := s.modBay b fun r => { r with confirm := .stopped }

/-- What a confirmed return makes of the part. -/
structure BackConfirmed (s t : State) (b : BayNo) (i : StringNo) (e : EndRec) : Prop where
  bay : t.bay b = {}
  str : t.str i = { (s.str i).reported e (s.minute + 60 * (s.profile i).retryDelay) with
    bay := none, state := (t.str i).state, settle := (t.str i).settle }
  settling : (s.profile i).settle ≠ 0 →
    (t.str i).state = .settling ∧ (t.str i).settle = .running ((s.profile i).settle * 60)
  float : (s.profile i).settle = 0 → (t.str i).state = .float
  switchHold : ⟨(s.str i).cfg.switch, .switch i⟩ ∉ t.holds
  counted : t.gas.bayStrings = s.gas.bayStrings - 1
  posted : ∃ r, t.mgmt.results.getLast? = some r ∧ r.string = i ∧ r.cls = e.cls ∧ r.cause = e.cause ∧ r.isolated = false

theorem State.confirmBack_eq (s : State) (b : BayNo) (i : StringNo) : s.confirmBack b i =
    (((((s.backConfirmed b).postEqualise b i false ((s.backConfirmed b).elapsed ((s.backConfirmed b).str i).startMinute)).freeBay
      b i).settlingCheck i).startSettle i ((s.profile i).settle * 60)).noteBayExit := rfl

theorem State.confirmBack_confirmed (s : State) (b : BayNo) (i : StringNo) {e : EndRec} (ended : (s.bay b).endOf = e) :
    BackConfirmed s (s.confirmBack b i) b i e := by
  rw [State.confirmBack_eq]
  have hbay : (s.backConfirmed b).bay b = { s.bay b with confirm := .stopped } := s.bay_modBay b _
  have hended : ((s.backConfirmed b).bay b).endOf = e := by rw [hbay]; exact ended
  have hposted := (s.backConfirmed b).postEqualise_posted b i false
    ((s.backConfirmed b).elapsed ((s.backConfirmed b).str i).startMinute) hended
  have hresult : ∀ n, ((s.backConfirmed b).equaliseResult b i false n).cls = e.cls ∧
      ((s.backConfirmed b).equaliseResult b i false n).cause = e.cause := fun n =>
    ⟨congrArg EndRec.cls hended, congrArg EndRec.cause hended⟩
  generalize ((s.backConfirmed b).elapsed ((s.backConfirmed b).str i).startMinute) = n at hposted ⊢
  generalize (s.backConfirmed b).postEqualise b i false n = v at hposted ⊢
  have hv : v.str i = (s.str i).reported e (s.minute + 60 * (s.profile i).retryDelay) := hposted.str
  have hgasv : v.gas = s.gas := by rw [hposted.eq]; rfl
  have hfreed : (v.freeBay b i).str i =
      { (s.str i).reported e (s.minute + 60 * (s.profile i).retryDelay) with bay := none } := by
    rw [State.freeBay_str, hv]
  have hchecked : ((v.freeBay b i).settlingCheck i).str i = (v.freeBay b i).str i := by rw [State.settlingCheck_eq]; rfl
  have hsettled := ((v.freeBay b i).settlingCheck i).startSettle_str i ((s.profile i).settle * 60)
  rw [hchecked, hfreed] at hsettled
  have hframe : (((v.freeBay b i).settlingCheck i).startSettle i ((s.profile i).settle * 60)).bays = (v.freeBay b i).bays ∧
      (((v.freeBay b i).settlingCheck i).startSettle i ((s.profile i).settle * 60)).holds = v.freedHolds b i ∧
      (((v.freeBay b i).settlingCheck i).startSettle i ((s.profile i).settle * 60)).gas = s.gas ∧
      (((v.freeBay b i).settlingCheck i).startSettle i ((s.profile i).settle * 60)).mgmt = v.mgmt := by
    rw [State.startSettle_eq, State.settlingCheck_eq]
    refine ⟨rfl, ?_, ?_, ?_⟩
    · dsimp only; rw [State.freeBay_frame]
    · dsimp only; rw [State.freeBay_frame]; exact hgasv
    · dsimp only; rw [State.freeBay_frame]
  obtain ⟨hbays, hholds, hgas, hmgmt⟩ := hframe
  have hswitch : (v.str i).cfg.switch = (s.str i).cfg.switch := by
    rw [hv, StringRec.reported_eq]
  generalize ((v.freeBay b i).settlingCheck i).startSettle i ((s.profile i).settle * 60) = w at *
  have hstr := FanMove.exitStr w i
  refine ⟨?_, ?_, fun hne => ?_, fun hzero => ?_, fun hmem => ?_, ?_, ?_⟩
  · rw [FanMove.exitBay]
    unfold State.bay
    rw [hbays]
    exact v.freeBay_bay b i
  · rw [hstr, hsettled]
    split <;> rfl
  · rw [hstr, hsettled, if_neg (by omega)]
    exact ⟨rfl, rfl⟩
  · rw [hstr, hsettled, if_pos (by rw [hzero])]
  · have hmem' := (FanMove.exitHolds w ⟨(s.str i).cfg.switch, .switch i⟩ nofun).1 hmem
    rw [hholds, ← hswitch] at hmem'
    exact v.switch_notMem_freedHolds b i hmem'
  · rw [FanMove.exitGas, hgas]
  · obtain ⟨hcls, hcause⟩ := hresult n
    refine ⟨_, ?_, rfl, hcls, hcause, rfl⟩
    rw [FanMove.exitMgmt, hmgmt, hposted.results]
    exact queueResult_getLast? _ _

/-! ## The obligation on switch reports (R108) -/

theorem Timer.isRunning_iff (t : Timer) : t.isRunning = true ↔ ∃ n, t = .running n := by
  cases t <;> simp [Timer.isRunning]

/-- Settles O42. -/
theorem switchReportConfirms : Obligations.SwitchReportConfirms := by
  intro s b i st m hw hstring p confirmed
  have hrunning : confirmed ↔ (s.bay b).confirm.isRunning = true := (Timer.isRunning_iff _).symm
  refine ⟨fun haddr x => ?_, fun haddr => ⟨fun x hfault hout hback => ?_, fun hst hc hgas => ?_, fun hst hc => ?_⟩⟩
  · unfold State.switchReported
    simp only [hstring]
    exact if_neg fun e => haddr e.symm
  · unfold State.switchReported
    simp only [hstring, haddr, if_true, hw.named, hw.state]
    rw [hrunning] at hout hback
    cases st <;> cases x <;> simp_all
  · have heq : s.switchReported m .equalise = s.confirmOut b i := by
      unfold State.switchReported
      simp only [hstring, haddr, if_true, hw.named, hw.state, hst]
      exact if_pos (hrunning.1 hc)
    rw [heq, State.confirmOut_eq]
    have hcell : ∀ (t : State) (x : StringState), t.str i = { (s.str i).clearOv with state := x } →
        ∀ q, (t.cell i q).ov = { state := false, agree := 0 } := fun t x ht q => by
      have : t.cell i q = (s.str i).clearOv.cell q := by unfold State.cell; rw [ht]; rfl
      rw [this, StringRec.clearOv_ov]
    have hbay := s.outConfirmed_bay b i
    cases hg : s.gas.state with
    | trip => exact absurd hg hgas
    | normal =>
      intro t
      have ht : t = s.outRunning b i p := if_pos rfl
      have hstr := s.outRunning_str b i p
      rw [ht, s.outRunning_bay b i p, hbay]
      refine ⟨hcell _ _ hstr, rfl, rfl, rfl, rfl, rfl, rfl, rfl, fun _ => ⟨by rw [hstr], rfl, rfl, rfl⟩, nofun⟩
    | hold =>
      intro t
      have ht : t = (s.outHeld b i p).setpointStep b := if_neg nofun
      have hstep := (s.outHeld b i p).setpointStep_step b
      have hconfirm := (s.outHeld b i p).setpointStep_confirm b
      rw [s.outHeld_bay b i p, hbay] at hconfirm
      have hfields := hstep.bay
      rw [s.outHeld_bay b i p, hbay] at hfields
      have hstr := (hstep.str i).trans (s.outHeld_str b i p)
      rw [ht]
      refine ⟨hcell _ _ hstr, hconfirm, by rw [hfields], by rw [hfields], by rw [hfields], by rw [hfields], by rw [hfields],
        by rw [hfields], nofun, fun _ => ⟨by rw [hstr], by rw [hfields], by rw [hfields], by rw [hfields], ?_⟩⟩
      rw [hfields]
      exact s.outConfirmed_heldOf b i
  · have heq : s.switchReported m .float = s.confirmBack b i := by
      unfold State.switchReported
      simp only [hstring, haddr, if_true, hw.named, hw.state, hst]
      exact if_pos (hrunning.1 hc)
    rw [heq]
    have h := s.confirmBack_confirmed b i rfl
    intro t
    refine ⟨h.bay, by rw [h.str], h.switchHold, h.settling, h.float, h.counted, fun e he => ?_⟩
    have hend : (s.bay b).endOf = e := Bay.endOf_some he
    rw [hend] at h
    refine ⟨h.posted, fun hcls => ?_, fun hcls hcancel hrestart => ?_⟩
    · rw [h.str]; exact StringRec.reported_complete hcls _
    · rw [h.str]; exact StringRec.reported_held hcls hcancel hrestart _


/-! ## Windows (R92, R93) -/

/-- What a recomputation writes: the setpoint, its command, and the peak. -/
structure Recomputed (s t : State) (b : BayNo) (i : StringNo) : Prop where
  bay : t.bay b = { s.bay b with
    setpoint := s.setpointOf i, eqSetpoint := (t.bay b).eqSetpoint, peak := (t.bay b).peak, confirm := (t.bay b).confirm,
    second := (t.bay b).second }
  state : (t.str i).state = (s.str i).state
  silent : s.setpointOf i = (s.bay b).setpoint → t.fp = s.fp
  eq : t = { s with fp := t.fp, strings := t.strings, bays := t.bays }

theorem State.recompute_spec (s : State) (b : BayNo) (i : StringNo) : Recomputed s (s.recompute b i) b i := by
  set v := (s.noteMean i).notePeak b i with hv
  have hvbay : v.bay b = { s.bay b with peak := (v.bay b).peak } := by
    rw [hv, State.noteMean_modStr]
    unfold State.notePeak
    rw [State.bay_modBay, State.bay_modStr]
  have hvstr : (v.str i).state = (s.str i).state := by
    rw [hv, State.noteMean_modStr]
    unfold State.notePeak
    rw [State.str_modBay, State.str_modStr]
  have hveq : v = { s with strings := v.strings, bays := v.bays } := by
    rw [hv, State.noteMean_modStr]
    rfl
  have heq : s.recompute b i = if s.setpointOf i = (v.bay b).setpoint then v
      else (v.modBay b fun r => { r with setpoint := s.setpointOf i, eqSetpoint := s.setpointOf i }).setpointStep b := rfl
  have hset : (v.bay b).setpoint = (s.bay b).setpoint := by rw [hvbay]
  rw [heq, hset]
  split
  · rename_i same
    exact ⟨by rw [hvbay, same], hvstr, fun _ => by rw [hveq], by rw [hveq]⟩
  · rename_i differs
    have hstep := (v.modBay b fun r => { r with setpoint := s.setpointOf i, eqSetpoint := s.setpointOf i }).setpointStep_step b
    refine ⟨?_, (congrArg StringRec.state (hstep.str i)).trans hvstr, fun same => absurd same differs, ?_⟩
    · rw [hstep.bay, State.bay_modBay, hvbay]
    · rw [hstep.eq, hveq]
      rfl

/-- The bay with its window judged. -/
def State.judged (s : State) (b : BayNo) (i : StringNo) : State := s.modBay b (judgeWindow (s.profile i) (s.spreadOf i))

theorem State.windowExpired_eq (s : State) (b : BayNo) (i : StringNo) : s.windowExpired b i =
    if (s.profile i).plateauRequired ≤ ((s.judged b i).bay b).plateau then (s.judged b i).endJob b ⟨.complete, .plateau⟩
    else ((s.judged b i).recompute b i).modBay b fun r =>
      { r with count := 0, sum := 0, window := .running ((s.profile i).window * 60) } := rfl

theorem State.judged_bay (s : State) (b : BayNo) (i : StringNo) :
    (s.judged b i).bay b = judgeWindow (s.profile i) (s.spreadOf i) (s.bay b) := s.bay_modBay b _

/-- A judgement writes the plateau count and the previous mean. -/
theorem judgeWindow_eq (p : Profile) (spread : Option Nat) (r : Bay) : judgeWindow p spread r =
    { r with plateau := (judgeWindow p spread r).plateau, prevMean := (judgeWindow p spread r).prevMean } := by
  unfold judgeWindow
  split <;> rfl

theorem judgeWindow_void {r : Bay} (h : r.count < 3) (p : Profile) (spread : Option Nat) : judgeWindow p spread r = r := by
  unfold judgeWindow windowMean
  rw [if_pos h]

theorem judgeWindow_mean {r : Bay} (h : 3 ≤ r.count) (p : Profile) (spread : Option Nat) : judgeWindow p spread r =
    { r with plateau := if isPlateau p r.prevMean (r.sum.tdiv r.count) spread then r.plateau + 1 else 0,
             prevMean := some (r.sum.tdiv r.count) } := by
  unfold judgeWindow windowMean
  rw [if_neg h.not_gt]

theorem isPlateau_iff (p : Profile) (prev : Option Int) (mean : Int) (spread : Option Nat) :
    isPlateau p prev mean spread = true ↔
      ∃ m w, prev = some m ∧ spread = some w ∧ (mean - m).natAbs ≤ p.tolerance ∧ w ≤ p.spreadLimit := by
  unfold isPlateau
  cases prev <;> cases spread <;> simp

/-- Settles O43. -/
theorem windowJudged : Obligations.WindowJudged := by
  intro s b i hw hquiet hdue r p mean goesOn plateauEnds
  have hexec : exec (.windowExpiry b) s = .next (s.windowExpired b i).settle := by
    show execWindowExpiry b s = _
    unfold execWindowExpiry
    rw [hw.expiring hdue (by simp)]
  set v := s.judged b i with hv
  have hbay : v.bay b = judgeWindow p (s.spreadOf i) r := s.judged_bay b i
  have hstr : v.str i = s.str i := rfl
  have hreads : SameReadings i s v := .modBay b _
  have hon : ∀ n m, (v.bay b).plateau = n → (v.bay b).prevMean = m → n < p.plateauRequired → goesOn n m := by
    intro n m hn hm hlt
    have h := v.recompute_spec b i
    have heq : s.windowExpired b i = (v.recompute b i).modBay b fun r =>
        { r with count := 0, sum := 0, window := .running (p.window * 60) } :=
      (s.windowExpired_eq b i).trans (if_neg (by rw [← hv, hn]; exact hlt.not_ge))
    have hset : v.setpointOf i = s.setpointOf i := hreads.setpointOf fun _ => rfl
    have hduration : (v.bay b).duration = r.duration := by rw [hbay, judgeWindow_eq]
    have hsetpoint : (v.bay b).setpoint = r.setpoint := by rw [hbay, judgeWindow_eq]
    have hfields : (v.recompute b i).evalDue = s.evalDue ∧ (v.recompute b i).holds = s.holds ∧
        (v.recompute b i).mgmt = s.mgmt := by rw [h.eq]; exact ⟨rfl, rfl, rfl⟩
    obtain ⟨hdue', hholds, hmgmt⟩ := hfields
    have hfinal : (s.windowExpired b i).bay b = { (v.recompute b i).bay b with
        count := 0, sum := 0, window := .running (p.window * 60) } := by rw [heq, State.bay_modBay]
    rw [h.bay] at hfinal
    have hsettled : (s.windowExpired b i).settle = s.windowExpired b i :=
      State.settle_quiet (by rw [heq]; exact hdue'.trans hquiet)
    refine ⟨s.windowExpired b i, hexec.trans (congrArg _ hsettled), ?_, by rw [hfinal]; exact hn, by rw [hfinal]; exact hm,
      by rw [hfinal], by rw [hfinal], by rw [hfinal], by rw [hfinal]; exact hduration, by rw [hfinal]; exact hset, fun same => ?_,
      ?_, ?_⟩
    · rw [heq]; exact h.state.trans hw.state
    · rw [heq]; exact h.silent (by rw [hset, hsetpoint]; exact same)
    · rw [heq]; exact hholds
    · rw [heq]; exact hmgmt
  have hend : ∀ n, (v.bay b).plateau = n → (v.bay b).prevMean = some mean → p.plateauRequired ≤ n → plateauEnds n := by
    intro n hn hm hle
    have heq : s.windowExpired b i = v.endToTransferBack b i ⟨.complete, .plateau⟩ := by
      rw [s.windowExpired_eq b i, ← hv, if_pos (by rw [hn]; exact hle)]
      exact State.endJob_back (s := v) (by rw [hbay, judgeWindow_eq]; exact hw.names) hw.state (by simp) _
    have h := v.endToTransferBack_ends b i ⟨.complete, .plateau⟩
    obtain ⟨-, hmgmt, -, -, -, hdue'⟩ := h.fields
    refine ⟨_, by rw [hexec, heq, State.settle_quiet (hdue'.trans hquiet)], by rw [h.str], by rw [h.bay], ?_, ?_, hmgmt⟩
    · rw [h.bay]; exact hn
    · rw [h.bay]; exact hm
  refine ⟨fun hcount hlt => ?_, fun hcount => ⟨fun m w hm hspread htol hlimit => ?_, fun hno hpos => ?_⟩, fun c hearly => ?_⟩
  · have h := judgeWindow_void hcount p (s.spreadOf i)
    exact hon _ _ (by rw [hbay, h]) (by rw [hbay, h]) hlt
  · have h := judgeWindow_mean hcount p (s.spreadOf i)
    rw [if_pos ((isPlateau_iff _ _ _ _).2 ⟨m, w, hm, hspread, htol, hlimit⟩)] at h
    exact ⟨hend _ (by rw [hbay, h]) (by rw [hbay, h]), hon _ _ (by rw [hbay, h]) (by rw [hbay, h])⟩
  · have h := judgeWindow_mean hcount p (s.spreadOf i)
    rw [if_neg fun hp => ?_] at h
    · exact hon _ _ (by rw [hbay, h]) (by rw [hbay, h]) hpos
    · obtain ⟨m, w, hm, hspread, htol, hlimit⟩ := (isPlateau_iff _ _ _ _).1 hp
      obtain h | h | ⟨m', hm', hgt⟩ | ⟨w', hw', hgt⟩ := hno
      · rw [h] at hm; cases hm
      · rw [h] at hspread; cases hspread
      · rw [hm'] at hm
        obtain rfl := Option.some.inj hm
        exact absurd htol hgt.not_ge
      · rw [hw'] at hspread
        obtain rfl := Option.some.inj hspread
        exact absurd hlimit hgt.not_ge
  · show execWindowExpiry c s = _
    unfold execWindowExpiry
    rw [State.expiring_early hearly]

end Sys2Proof.Machine
end

section
/-! PROOF. The layer of facts about gas changes: what a change of the gas state makes of jobs, fan and STAT (R97 to R99, R112 to
R122), and how the fan follows its need (R120, R121). -/

namespace Sys2Proof.Machine

open Sys2Proof

/-! ## What a gas change makes of the job of one bay (R97 to R99) -/

/-- Of the Gas Supervisor, only the count of bay strings and the fan may differ. -/
def GasSame (g h : Gas) : Prop := h = { g with bayStrings := h.bayStrings, fan := h.fan, runOn := h.runOn }

theorem GasSame.refl (g : Gas) : GasSame g g := rfl

theorem GasSame.trans {g h k : Gas} (a : GasSame g h) (b : GasSame h k) : GasSame g k := by
  unfold GasSame at *
  rw [b, a]

theorem GasSame.of_eq {g h : Gas} (e : h = g) : GasSame g h := by rw [e]; exact .refl g

/-- What the work of one bay leaves: the strings that are not its own, and the other bay. -/
structure JobStep (b : BayNo) (s t : State) : Prop where
  others : ∀ j, (s.bay b).string ≠ some j → t.str j = s.str j
  bays : ∀ c, c ≠ b → t.bay c = s.bay c
  gas : GasSame s.gas t.gas
  kept : Kept s t

theorem JobStep.refl (b : BayNo) (s : State) : JobStep b s s := ⟨fun _ _ => rfl, fun _ _ => rfl, .refl _, .refl s⟩

theorem JobStep.endJob (b : BayNo) (s : State) (e : EndRec) : JobStep b s (s.endJob b e) := by
  cases hname : (s.bay b).string with
  | none => rw [State.endJob_unnamed hname]; exact .refl b s
  | some i =>
    have hne : ∀ j, (s.bay b).string ≠ some j → j ≠ i := fun j hj e => hj (by rw [hname, e])
    by_cases hback : (s.str i).state ∈ [StringState.transferOut, .equalising, .held]
    · have h := s.endToTransferBack_ends b i e
      rw [State.endJob_back hname rfl hback]
      exact ⟨fun j hj => h.others j (hne j hj), h.bays, .of_eq h.fields.2.2.2.1, .endToTransferBack s b i e⟩
    · by_cases hbase : (s.str i).state = .baseline
      · have h := s.endInBaseline_ends b i e (s.elapsed (s.str i).startMinute)
        rw [State.endJob_baseline hname hbase]
        exact ⟨fun j hj => h.others j (hne j hj), h.bays, by unfold GasSame; rw [h.gas], .endInBaseline s b i e _⟩
      · rw [State.endJob_ignored hname (by simp_all)]
        exact .refl b s

/-- Bay and string as a change to HOLD writes them, before the setpoint is commanded. -/
def State.heldWritten (s : State) (b : BayNo) (i : StringNo) : State :=
  (s.modBay b fun r => { r with
    window := r.window.pause, duration := r.duration.pause, hold := .running (s.site.holdLimit * 60),
    setpoint := s.heldOf i }).modStr i fun r => { r with state := .held }

/-- Bay as a change to NORMAL writes it, before the setpoint is commanded. -/
def State.normalWritten (s : State) (b : BayNo) (i : StringNo) : State :=
  ((s.newSetpoint b i).notePeak b i).modBay b fun r =>
    { r with hold := .stopped, prevMean := none, plateau := 0, count := 0, sum := 0,
             window := .running ((s.profile i).window * 60), duration := r.duration.resume }

theorem State.gasHold_eq (s : State) (b : BayNo) (i : StringNo) : s.gasHold b i = (s.heldWritten b i).setpointStep b := rfl

theorem State.gasNormal_eq (s : State) (b : BayNo) (i : StringNo) :
    s.gasNormal b i = ((s.normalWritten b i).setpointStep b).modStr i fun r => { r with state := .equalising } := rfl

section
variable (s : State) (b : BayNo) (i : StringNo)

theorem State.heldWritten_str : (s.heldWritten b i).str i = { s.str i with state := .held } :=
  State.str_modStr _ i fun r => { r with state := .held }

theorem State.heldWritten_str_ne {j : StringNo} (h : j ≠ i) : (s.heldWritten b i).str j = s.str j :=
  State.str_modStr_ne _ i j (fun r => { r with state := .held }) h

theorem State.heldWritten_bay_ne {c : BayNo} (h : c ≠ b) : (s.heldWritten b i).bay c = s.bay c := by
  unfold State.heldWritten
  rw [State.bay_modStr, State.bay_modBay_ne _ b c _ h]

theorem State.gasHold_state : ((s.gasHold b i).str i).state = .held := by
  rw [State.gasHold_eq, (State.setpointStep_step _ b).str, State.heldWritten_str]

theorem State.gasHold_gas : (s.gasHold b i).gas = s.gas := (State.setpointStep_step (s.heldWritten b i) b).gas

theorem JobStep.gasHold (name : (s.bay b).string = some i) : JobStep b s (s.gasHold b i) := by
  have hstep := (s.heldWritten b i).setpointStep_step b
  refine ⟨fun j hj => ?_, fun c hc => (hstep.others c hc).trans (s.heldWritten_bay_ne b i hc), .of_eq (s.gasHold_gas b i), ?_⟩
  · exact (hstep.str j).trans (s.heldWritten_str_ne b i fun e => hj (by rw [name, e]))
  · refine .trans ?_ (Kept.beginStep _ _ _ _)
    exact (Kept.modBay s b _).trans (Kept.modStr _ i _ fun _ => rfl)

theorem State.newSetpoint_modStr : s.newSetpoint b i = (s.modStr i fun r =>
    { r with lastMean := if s.freshCells i = [] then r.lastMean else some (s.meanOf i) }).modBay b
      fun r => { r with setpoint := s.setpointOf i, eqSetpoint := s.setpointOf i } := by
  unfold State.newSetpoint
  rw [State.noteMean_modStr]

theorem State.normalWritten_str_ne {j : StringNo} (h : j ≠ i) : (s.normalWritten b i).str j = s.str j := by
  unfold State.normalWritten State.notePeak
  rw [State.str_modBay, State.str_modBay, State.newSetpoint_modStr, State.str_modBay, State.str_modStr_ne _ i j _ h]

theorem State.normalWritten_bay_ne {c : BayNo} (h : c ≠ b) : (s.normalWritten b i).bay c = s.bay c := by
  unfold State.normalWritten State.notePeak
  rw [State.bay_modBay_ne _ b c _ h, State.bay_modBay_ne _ b c _ h, State.newSetpoint_modStr, State.bay_modBay_ne _ b c _ h,
    State.bay_modStr]

theorem State.normalWritten_gas : (s.normalWritten b i).gas = s.gas := by
  unfold State.normalWritten
  rw [State.newSetpoint_modStr]
  rfl

theorem State.gasNormal_gas : (s.gasNormal b i).gas = s.gas :=
  (State.setpointStep_step (s.normalWritten b i) b).gas.trans (s.normalWritten_gas b i)

theorem JobStep.gasNormal (name : (s.bay b).string = some i) : JobStep b s (s.gasNormal b i) := by
  have hstep := (s.normalWritten b i).setpointStep_step b
  have hne : ∀ j, (s.bay b).string ≠ some j → j ≠ i := fun j hj e => hj (by rw [name, e])
  refine ⟨fun j hj => ?_, fun c hc => (hstep.others c hc).trans (s.normalWritten_bay_ne b i hc), .of_eq (s.gasNormal_gas b i), ?_⟩
  · rw [State.gasNormal_eq, State.str_modStr_ne _ i j _ (hne j hj), hstep.str, s.normalWritten_str_ne b i (hne j hj)]
  · rw [State.gasNormal_eq]
    refine .trans ?_ (Kept.modStr _ i (fun r => { r with state := .equalising }) fun _ => rfl)
    refine .trans ?_ (Kept.beginStep _ _ _ _)
    exact ((Kept.newSetpoint s b i).trans (Kept.notePeak _ b i)).trans (Kept.modBay _ b _)

end

theorem JobStep.gasChangeBay (old : GasState) (s : State) (b : BayNo) : JobStep b s (s.gasChangeBay old b) := by
  unfold State.gasChangeBay
  split
  · exact .refl b s
  · split
    · split
      · exact .gasHold s b _ ‹_›
      · exact .refl b s
    · split
      · exact .gasNormal s b _ ‹_›
      · exact .refl b s
    · exact .endJob b s _

/-- Outside TRIP a gas change leaves the Gas Supervisor as it is. -/
theorem State.gasChangeBay_gas {s : State} (h : s.gas.state ≠ .trip) (old : GasState) (b : BayNo) :
    (s.gasChangeBay old b).gas = s.gas := by
  unfold State.gasChangeBay
  split
  · rfl
  · split
    · split
      · exact s.gasHold_gas b _
      · rfl
    · split
      · exact s.gasNormal_gas b _
      · rfl
    · exact absurd ‹_› h

theorem State.gasChangeEq_bays (s : State) (old : GasState) :
    s.gasChangeEq old = (s.gasChangeBay old 0).gasChangeBay old 1 := rfl

theorem State.gasChangeEq_gas {s : State} (h : s.gas.state ≠ .trip) (old : GasState) : (s.gasChangeEq old).gas = s.gas := by
  have hfirst := State.gasChangeBay_gas h old 0
  rw [State.gasChangeEq_bays, State.gasChangeBay_gas (by rw [hfirst]; exact h), hfirst]

theorem State.gasChangeEq_same (s : State) (old : GasState) : GasSame s.gas (s.gasChangeEq old).gas := by
  rw [State.gasChangeEq_bays]
  exact (JobStep.gasChangeBay old s 0).gas.trans (JobStep.gasChangeBay old _ 1).gas

theorem Kept.gasChangeEq (s : State) (old : GasState) : Kept s (s.gasChangeEq old) := by
  rw [State.gasChangeEq_bays]
  exact (JobStep.gasChangeBay old s 0).kept.trans (JobStep.gasChangeBay old _ 1).kept

/-! ### Strings that a change to HOLD stops (R97) -/

theorem State.gasChangeBay_hold {s : State} (h : s.gas.state = .hold) {b : BayNo} {i : StringNo} (name : (s.bay b).string = some i) :
    s.gasChangeBay .normal b = if (s.str i).state = .equalising then s.gasHold b i else s := by
  unfold State.gasChangeBay
  rw [name]
  simp only [h, true_and]

/-- A string that is EQUALISING is HELD by its bay, and stays so. -/
theorem State.gasChangeEq_held {s : State} (h : s.gas.state = .hold) {b : BayNo} {i : StringNo} (name : (s.bay b).string = some i)
    (state : (s.str i).state = .equalising) : ((s.gasChangeEq .normal).str i).state = .held := by
  have hstays : ∀ (t : State) (c : BayNo), t.gas.state = .hold → (t.str i).state = .held →
      ((t.gasChangeBay .normal c).str i).state = .held := by
    intro t c ht hs
    by_cases hc : (t.bay c).string = some i
    · rw [State.gasChangeBay_hold ht hc, hs, if_neg nofun, hs]
    · rw [(JobStep.gasChangeBay .normal t c).others i hc, hs]
  have hholds : ∀ (t : State) (c : BayNo), t.gas.state = .hold → (t.bay c).string = some i → (t.str i).state = .equalising →
      ((t.gasChangeBay .normal c).str i).state = .held := by
    intro t c ht hc hs
    rw [State.gasChangeBay_hold ht hc, if_pos hs]
    exact t.gasHold_state c i
  have hgas : (s.gasChangeBay .normal 0).gas.state = .hold := by rw [State.gasChangeBay_gas (by rw [h]; decide), h]
  rw [State.gasChangeEq_bays]
  by_cases hzero : (s.bay 0).string = some i
  · exact hstays _ 1 hgas (hholds s 0 h hzero state)
  · have hb : b = 1 := by
      match b with
      | 0 => exact absurd name hzero
      | 1 => rfl
    subst hb
    have hstep := JobStep.gasChangeBay .normal s 0
    refine hholds _ 1 hgas ?_ ?_
    · rw [hstep.bays 1 (by decide)]; exact name
    · rw [hstep.others i hzero]; exact state

/-! ### Jobs that TRIP ends (R99) -/

theorem State.gasChangeBay_trip {s : State} (h : s.gas.state = .trip) {b : BayNo} {i : StringNo} (name : (s.bay b).string = some i)
    (old : GasState) : s.gasChangeBay old b = s.endJob b ⟨.abnormal, .gasTrip⟩ := by
  unfold State.gasChangeBay
  rw [name]
  simp only [h]

/-- The job of a bay ends, whichever bay it is, and the other bay's end leaves it. -/
theorem State.gasChangeEq_trip {s : State} (h : s.gas.state = .trip) {b : BayNo} {i : StringNo} {st : StringState}
    (hw : Working s b i st) (alone : ∀ c, c ≠ b → (s.bay c).string ≠ some i)
    (mem : st ∈ [StringState.transferOut, .equalising, .held]) (old : GasState) :
    ((s.gasChangeEq old).str i).state = .transferBack ∧
      ((s.gasChangeEq old).bay b).ended = some ⟨.abnormal, .gasTrip⟩ ∧ ((s.gasChangeEq old).bay b).state = .busy := by
  have hends : ∀ t : State, t.gas.state = .trip → Working t b i st →
      ((t.gasChangeBay old b).str i).state = .transferBack ∧ ((t.gasChangeBay old b).bay b).ended = some ⟨.abnormal, .gasTrip⟩ ∧
        ((t.gasChangeBay old b).bay b).state = .busy := by
    intro t ht htw
    rw [State.gasChangeBay_trip ht htw.names, State.endJob_back htw.names htw.state mem]
    have hend := t.endToTransferBack_ends b i ⟨.abnormal, .gasTrip⟩
    rw [hend.str, hend.bay]
    exact ⟨rfl, rfl, htw.busy⟩
  rw [State.gasChangeEq_bays]
  match b with
  | 0 =>
    have hfirst := hends s h hw
    have hstep := JobStep.gasChangeBay old (s.gasChangeBay old 0) 1
    have hother : ((s.gasChangeBay old 0).bay 1).string ≠ some i := by
      rw [(JobStep.gasChangeBay old s 0).bays 1 (by decide)]
      exact alone 1 (by decide)
    rw [hstep.others i hother, hstep.bays 0 (by decide)]
    exact hfirst
  | 1 =>
    have hstep := JobStep.gasChangeBay old s 0
    have hstr := hstep.others i (alone 0 (by decide))
    have hbay := hstep.bays 1 (by decide)
    have htrip : (s.gasChangeBay old 0).gas.state = .trip := by rw [hstep.gas]; exact h
    exact hends _ htrip ⟨by rw [hbay]; exact hw.busy, by rw [hbay]; exact hw.names, by rw [hstr]; exact hw.named,
      by rw [hstr]; exact hw.state⟩

/-! ## A change of the gas state (R112, R119) -/

/-- The gas state and reason as they are written, before the change is delivered. -/
def State.gasWritten (s : State) (st : GasState) (why : GasReason) : State :=
  s.modGas fun g => { g with state := st, reason := why }

theorem State.setGas_same (s : State) (why : GasReason) : s.setGas s.gas.state why = s.modGas fun g => { g with reason := why } := by
  unfold State.setGas
  exact if_pos rfl

/-- A change is delivered to EQ, to RQ, to the fan and to STAT. -/
theorem State.setGas_change {s : State} {st : GasState} (h : st ≠ s.gas.state) (why : GasReason) :
    s.setGas st why = ((((s.gasWritten st why).gasChangeEq s.gas.state).trigger).fanFollow s.gas.need).modGas Gas.driveStat := by
  unfold State.setGas
  exact if_neg h

/-- What a change of the gas state makes of the Gas Supervisor. -/
theorem State.setGas_gas {s : State} {st : GasState} (h : st ≠ s.gas.state) (why : GasReason) :
    (s.setGas st why).gas = { s.gas with
      state := st, reason := why, bayStrings := (s.setGas st why).gas.bayStrings, fan := (s.setGas st why).gas.fan,
      runOn := (s.setGas st why).gas.runOn, stat := st ≠ .normal || 0 < s.gas.isolated } := by
  rw [State.setGas_change h]
  have hsame := (s.gasWritten st why).gasChangeEq_same s.gas.state
  have hfan := FanMove.fanFollow ((s.gasWritten st why).gasChangeEq s.gas.state).trigger s.gas.need
  have hgas : GasSame (s.gasWritten st why).gas ((((s.gasWritten st why).gasChangeEq s.gas.state).trigger).fanFollow s.gas.need).gas :=
    hsame.trans (by unfold GasSame; rw [hfan.gas]; rfl)
  generalize ((((s.gasWritten st why).gasChangeEq s.gas.state).trigger).fanFollow s.gas.need) = t at hgas ⊢
  unfold GasSame at hgas
  rw [State.modGas_gas, hgas]
  rfl

theorem State.setGas_evalDue {s : State} {st : GasState} (h : st ≠ s.gas.state) (why : GasReason) :
    (s.setGas st why).evalDue = true := by
  rw [State.setGas_change h]
  exact (FanMove.fanFollow ((s.gasWritten st why).gasChangeEq s.gas.state).trigger s.gas.need).evalDue

/-- The fan, and strings and bays, as a change leaves them. -/
theorem State.setGas_rest {s : State} {st : GasState} (h : st ≠ s.gas.state) (why : GasReason) :
    (∀ i, (s.setGas st why).str i = ((s.gasWritten st why).gasChangeEq s.gas.state).str i) ∧
      ∀ b, (s.setGas st why).bay b = ((s.gasWritten st why).gasChangeEq s.gas.state).bay b := by
  rw [State.setGas_change h]
  have hfan := FanMove.fanFollow ((s.gasWritten st why).gasChangeEq s.gas.state).trigger s.gas.need
  exact ⟨fun i => hfan.str i, fun b => hfan.bay b⟩

theorem Kept.setGas (s : State) (st : GasState) (why : GasReason) : Kept s (s.setGas st why) := by
  by_cases h : st = s.gas.state
  · subst h
    rw [State.setGas_same]
    exact Kept.modGas s _
  · rw [State.setGas_change h]
    refine .trans ?_ (Kept.modGas _ _)
    refine .trans ?_ (Kept.fanFollow _ _)
    exact ((Kept.modGas s _).trans (Kept.gasChangeEq _ _)).trans (Kept.trigger _)

end Sys2Proof.Machine
end

section
/-! PROOF. The gas obligations that name the Gas Supervisor alone: what an accepted CLEAR_TRIP leaves (R118), the trip filter
(R117), a report of the gas sensor (R114, R115), and a change of its address (R113). -/

namespace Sys2Proof.Machine

open Sys2Proof

/-! ## The fan, as a function of the Gas Supervisor (R120) -/

/-- The fan and its run-on as they follow the need, given whether it stood before. -/
def Gas.follow (g : Gas) (fan : Byte) (minutes : Nat) (before : Bool) : Gas :=
  if fan = 0 then g
  else if before && !g.need then
    if g.fan = .on then
      if minutes = 0 then { g with fan := .off, runOn := .stopped } else { g with fan := .runOn, runOn := .running (minutes * 60) }
    else g
  else if !before && g.need then if g.fan = .on then g else { g with fan := .on, runOn := .stopped }
  else g

theorem State.offerFan_gas (s : State) (on : Bool) : (s.offerFan on).gas = s.gas := by
  unfold State.offerFan
  split <;> rfl

theorem State.takeHold_gas (s : State) (a : Byte) (h : Holder) : (s.takeHold a h).gas = s.gas := by rw [State.takeHold_eq]

theorem State.fanStart_gas (s : State) : s.fanStart.gas = { s.gas with fan := .on, runOn := .stopped } := by
  unfold State.fanStart
  rw [State.offerFan_gas, State.takeHold_gas]
  rfl

theorem State.fanStop_gas (s : State) : s.fanStop.gas = { s.gas with fan := .off, runOn := .stopped } :=
  State.offerFan_gas _ false

theorem State.needEnds_gas (s : State) : s.needEnds.gas =
    if s.gas.fan = .on then
      if s.site.runOn = 0 then { s.gas with fan := .off, runOn := .stopped }
      else { s.gas with fan := .runOn, runOn := .running (s.site.runOn * 60) }
    else s.gas := by
  unfold State.needEnds
  split <;> rename_i hf
  · rw [if_pos hf]
    split
    · exact s.fanStop_gas
    · rfl
  · rw [if_neg hf]

theorem State.needArises_gas (s : State) :
    s.needArises.gas = if s.gas.fan = .on then s.gas else { s.gas with fan := .on, runOn := .stopped } := by
  unfold State.needArises
  split <;> rename_i hf <;> simp only [hf, if_true, reduceCtorEq, if_false]
  · exact s.fanStart_gas
  · rfl

theorem State.fanFollow_gas (s : State) (before : Bool) :
    (s.fanFollow before).gas = s.gas.follow s.site.fan s.site.runOn before := by
  unfold State.fanFollow Gas.follow
  split
  · rfl
  · split
    · exact s.needEnds_gas
    · split
      · exact s.needArises_gas
      · rfl

/-- A change that does not lead to TRIP writes the Gas Supervisor as the fan and STAT say. -/
theorem State.setGas_follow {s : State} {st : GasState} (h : st ≠ s.gas.state) (trip : st ≠ .trip) (why : GasReason) :
    (s.setGas st why).gas =
      (({ s.gas with state := st, reason := why }).follow s.site.fan s.site.runOn s.gas.need).driveStat := by
  have hgas := State.gasChangeEq_gas (s := s.gasWritten st why) trip s.gas.state
  have hsite := (Kept.gasChangeEq (s.gasWritten st why) s.gas.state).site
  rw [State.setGas_change h, State.modGas_gas, State.fanFollow_gas]
  exact congrArg Gas.driveStat (congrArg₂ (fun (g : Gas) (x : Site) => g.follow x.fan x.runOn s.gas.need) hgas hsite)

/-! ## What a gas change leaves of the sensor and the filter -/

/-- The sensor, its timer, the qualifier and the trip filter are as they were. -/
structure SensorSame (g h : Gas) : Prop where
  sensor : h.sensor = g.sensor
  lost : h.lost = g.lost
  qualifier : h.qualifier = g.qualifier
  filter : h.filter = g.filter
  filterAgree : h.filterAgree = g.filterAgree

theorem SensorSame.refl (g : Gas) : SensorSame g g := ⟨rfl, rfl, rfl, rfl, rfl⟩

theorem SensorSame.setGas (s : State) (st : GasState) (why : GasReason) : SensorSame s.gas (s.setGas st why).gas := by
  by_cases h : st = s.gas.state
  · subst h
    rw [State.setGas_same]
    exact ⟨rfl, rfl, rfl, rfl, rfl⟩
  · rw [State.setGas_gas h]
    exact ⟨rfl, rfl, rfl, rfl, rfl⟩

theorem State.setGas_state (s : State) (st : GasState) (why : GasReason) :
    (s.setGas st why).gas.state = st ∧ (s.setGas st why).gas.reason = why := by
  by_cases h : st = s.gas.state
  · subst h
    rw [State.setGas_same]
    exact ⟨rfl, rfl⟩
  · rw [State.setGas_gas h]
    exact ⟨rfl, rfl⟩

theorem State.setGas_stat {s : State} {st : GasState} (h : st ≠ s.gas.state) (why : GasReason) :
    (s.setGas st why).gas.stat = decide (st ≠ .normal ∨ 0 < s.gas.isolated) := by
  rw [State.setGas_gas h]
  exact (Bool.decide_or _ _).symm

theorem State.holdGas_trip {s : State} (h : s.gas.state = .trip) (why : GasReason) : s.holdGas why = s := by
  unfold State.holdGas
  rw [h]

theorem State.holdGas_other {s : State} (h : s.gas.state ≠ .trip) (why : GasReason) : s.holdGas why = s.setGas .hold why := by
  unfold State.holdGas
  split
  · exact absurd ‹_› h
  · rfl

theorem State.freeGas_hold {s : State} (h : s.gas.state = .hold) : s.freeGas = s.setGas .normal .none := by
  unfold State.freeGas
  rw [h]

theorem State.freeGas_other {s : State} (h : s.gas.state ≠ .hold) : s.freeGas = s := by
  unfold State.freeGas
  split
  · exact absurd ‹_› h
  · rfl

theorem SensorSame.holdGas (s : State) (why : GasReason) : SensorSame s.gas (s.holdGas why).gas := by
  by_cases h : s.gas.state = .trip
  · rw [State.holdGas_trip h]; exact .refl _
  · rw [State.holdGas_other h]; exact .setGas s _ _

theorem SensorSame.freeGas (s : State) : SensorSame s.gas s.freeGas.gas := by
  by_cases h : s.gas.state = .hold
  · rw [State.freeGas_hold h]; exact .setGas s _ _
  · rw [State.freeGas_other h]; exact .refl _

theorem SensorSame.gasFlip (s : State) (high : Bool) : SensorSame s.gas (s.gasFlip high).gas := by
  unfold State.gasFlip
  split
  · split
    · exact .setGas s _ _
    · exact .refl _
  · exact .freeGas s

/-! ## The evaluation that follows (R75) -/

theorem Grants.settle (s : State) : Grants { s with evalDue := false } s.settle := by
  cases due : s.evalDue with
  | true => rw [s.settle_due due]; exact .evaluate _
  | false =>
    rw [State.settle_quiet due]
    have same : { s with evalDue := false } = s := by rw [← due]
    rw [same]
    exact .refl s

/-- Outside NORMAL no job is granted: an evaluation leaves the Gas Supervisor and the bays. -/
theorem State.evaluate_held {s : State} (h : s.gas.state ≠ .normal) : s.evaluate.gas = s.gas ∧ s.evaluate.bays = s.bays := by
  have hbay : s.bayPick = s := State.bayPick_none <| (pick_eq_none _).2 <| List.filter_eq_nil_iff.2 fun e _ => by
    have unready : s.equaliseReady e = false := by
      rw [← Bool.not_eq_true, State.equaliseReady_iff]
      exact fun ⟨_, _, _, _, _, normal, _⟩ => h normal
    unfold State.equaliseGrant
    rw [if_neg fun h => absurd (unready ▸ h.2) Bool.false_ne_true]
    exact Bool.false_ne_true
  have heq : s.evaluate = s.manifoldPick := by unfold State.evaluate; rw [hbay, hbay]
  rw [heq]
  cases hpick : pick (s.requests.filter s.wateringEligible) with
  | none => rw [State.manifoldPick_none hpick]; exact ⟨rfl, rfl⟩
  | some e =>
    obtain ⟨-, -, -, hcases⟩ := State.manifoldPick_some hpick
    have hgranted := (s.dropEntry e.string .watering).wateringGranted_frame e.string e.sources
    have hopen : ∀ (t : State) p rest, (t.openFill e.string p rest).gas = t.gas ∧ (t.openFill e.string p rest).bays = t.bays := by
      intro t p rest
      unfold State.openFill
      split
      · exact ⟨rfl, rfl⟩
      · dsimp only
        split <;> exact ⟨rfl, rfl⟩
    obtain hw | ⟨p, rest, ho⟩ := hcases
    · rw [hw, hgranted]; exact ⟨rfl, rfl⟩
    · rw [ho, (hopen _ p rest).1, (hopen _ p rest).2, hgranted]; exact ⟨rfl, rfl⟩

theorem State.settle_held {s : State} (h : s.gas.state ≠ .normal) : s.settle.gas = s.gas ∧ s.settle.bays = s.bays := by
  cases due : s.evalDue with
  | true => rw [s.settle_due due]; exact State.evaluate_held (s := { s with evalDue := false }) h
  | false => rw [State.settle_quiet due]; exact ⟨rfl, rfl⟩

/-- An evaluation writes no gas state, no sensor and no STAT. -/
theorem State.settle_gas (s : State) :
    s.settle.gas.state = s.gas.state ∧ s.settle.gas.reason = s.gas.reason ∧ s.settle.gas.sensor = s.gas.sensor ∧
      s.settle.gas.qualifier = s.gas.qualifier ∧ s.settle.gas.filter = s.gas.filter ∧ s.settle.gas.stat = s.gas.stat := by
  rw [(Grants.settle s).gas]
  exact ⟨rfl, rfl, rfl, rfl, rfl, rfl⟩

/-! ## CLEAR_TRIP (R118) -/

theorem Gas.clearable_iff (g : Gas) : g.clearable = true ↔ g.state = .trip ∧ g.filter = .high := by
  unfold Gas.clearable
  rw [Bool.and_eq_true, decide_eq_true_eq, decide_eq_true_eq]

theorem Gas.afterTrip_fst_ne (g : Gas) : g.afterTrip.1 ≠ .trip := by
  unfold Gas.afterTrip
  split <;> exact nofun

/-- Settles O33. -/
theorem clearTripLeavesTrip : Obligations.ClearTripLeavesTrip := by
  intro s src rest hs
  refine ⟨fun h => congrArg Host.Outcome.next (hs.refused rfl (if_neg ?_)), fun trip high => ?_⟩
  · rw [State.withInput_gas, Gas.clearable_iff]
    rintro ⟨trip, high⟩
    obtain h | h := h
    · exact h trip
    · rw [high] at h; cases h
  · have hanswer : (s.withInput rest).answerClearTrip [] =
        ({ code := .ok }, (s.withInput rest).setGas s.gas.afterTrip.1 s.gas.afterTrip.2) :=
      if_pos (s.gas.clearable_iff.2 ⟨trip, high⟩)
    refine ⟨_, congrArg Host.Outcome.next (hs.answered (answer := State.answerClearTrip) (k := .clearTrip) rfl hanswer), ?_⟩
    have hne : s.gas.afterTrip.1 ≠ (s.withInput rest).gas.state := by
      rw [State.withInput_gas, trip]
      exact s.gas.afterTrip_fst_ne
    obtain ⟨hstate, hwhy⟩ := (s.withInput rest).setGas_state s.gas.afterTrip.1 s.gas.afterTrip.2
    have hsame := SensorSame.setGas (s.withInput rest) s.gas.afterTrip.1 s.gas.afterTrip.2
    have hstat := State.setGas_stat hne s.gas.afterTrip.2
    generalize (s.withInput rest).setGas s.gas.afterTrip.1 s.gas.afterTrip.2 = u at hstate hwhy hsame hstat
    obtain ⟨tstate, twhy, tsensor, tqualifier, tfilter, tstat⟩ := u.settle_gas
    generalize u.settle = t at tstate twhy tsensor tqualifier tfilter tstat
    rw [tstate, twhy, tstat, hstat, hstate, hwhy, tsensor, tqualifier, tfilter, hsame.sensor, hsame.qualifier, hsame.filter]
    refine ⟨fun h => ?_, fun h hq => ?_, fun h hq => ?_, fun h => ?_, ?_, rfl, rfl, high⟩
    · simp only [Gas.afterTrip, h, and_self]
    · simp only [Gas.afterTrip, h, hq, and_self]
    · simp only [Gas.afterTrip, h, hq, and_self]
    · simp only [Gas.afterTrip, h, and_self]
    · exact decide_eq_true_iff

/-! ## The trip filter (R117) -/

theorem State.tripSample_same {s : State} {level : PinLevel} (h : level = s.gas.filter) :
    s.tripSample level = s.modGas fun g => { g with filterAgree := 0 } := if_pos h

theorem State.tripSample_counts {s : State} {level : PinLevel} (h : level ≠ s.gas.filter) (count : s.gas.filterAgree < 2) :
    s.tripSample level = s.modGas fun g => { g with filterAgree := g.filterAgree + 1 } := by
  unfold State.tripSample
  rw [if_neg h, if_neg (by omega)]

/-- The state as the third differing sample leaves it, before a trip is acted on. -/
def State.filterFlipped (s : State) (level : PinLevel) : State := s.modGas fun g => { g with filter := level, filterAgree := 0 }

theorem State.tripSample_flips {s : State} {level : PinLevel} (h : level ≠ s.gas.filter) (count : s.gas.filterAgree = 2) :
    s.tripSample level = if level = .low then (s.filterFlipped level).setGas .trip .tripInput else s.filterFlipped level := by
  unfold State.tripSample
  rw [if_neg h, if_pos (by omega)]
  rfl

/-- A trip ends the job of a bay, and the evaluation that follows leaves it ended. -/
theorem State.setGas_trip_ends {s : State} (h : s.gas.state ≠ .trip) {b : BayNo} {i : StringNo} {st : StringState}
    (hw : Working s b i st) (alone : ∀ c, c ≠ b → (s.bay c).string ≠ some i)
    (mem : st ∈ [StringState.transferOut, .equalising, .held]) (why : GasReason) :
    ((s.setGas .trip why).settle.str i).state = .transferBack ∧
      ((s.setGas .trip why).settle.bay b).ended = some ⟨.abnormal, .gasTrip⟩ := by
  have hrest := State.setGas_rest (st := .trip) h.symm why
  obtain ⟨hstate, hended, hbusy⟩ := State.gasChangeEq_trip (s := s.gasWritten .trip why) rfl
    ⟨hw.busy, hw.names, hw.named, hw.state⟩ alone mem s.gas.state
  rw [← hrest.1 i] at hstate
  rw [← hrest.2 b] at hended hbusy
  generalize s.setGas .trip why = u at hstate hended hbusy
  have hgrants := Grants.settle u
  have hstr : u.settle.str i = u.str i := hgrants.working i (by rw [show ({ u with evalDue := false } : State).str i = u.str i from rfl, hstate]; decide)
  have hbay : u.settle.bay b = u.bay b := hgrants.inUse b (by rw [show ({ u with evalDue := false } : State).bay b = u.bay b from rfl, hbusy]; decide)
  rw [hstr, hbay]
  exact ⟨hstate, hended⟩

/-- Settles O45. -/
theorem tripFilterFlips : Obligations.TripFilterFlips := by
  intro s due
  have hquiet : ∀ f : Gas → Gas, (s.modGas f).settle = s.modGas f := fun f => State.settle_quiet due
  refine ⟨rfl, rfl, fun level h => congrArg Host.Outcome.next ?_, fun level h count => congrArg Host.Outcome.next ?_,
    fun low count => congrArg Host.Outcome.next ?_, fun high count => ?_⟩
  · rw [State.tripSample_same h]; exact hquiet _
  · rw [State.tripSample_counts h count]; exact hquiet _
  · rw [State.tripSample_flips (by rw [low]; decide) count, if_neg nofun]; exact hquiet _
  · have hflip := State.tripSample_flips (s := s) (level := .low) (by rw [high]; decide) count
    rw [if_pos rfl] at hflip
    refine ⟨_, congrArg (fun u : State => Host.Outcome.next u.settle) hflip, ?_⟩
    have hstate := (s.filterFlipped .low).setGas_state .trip .tripInput
    have hsame := SensorSame.setGas (s.filterFlipped .low) .trip .tripInput
    have hgas := State.settle_held (s := (s.filterFlipped .low).setGas .trip .tripInput) (by rw [hstate.1]; exact nofun)
    refine ⟨?_, ?_, ?_, ?_, fun trip => ?_, fun trip b i st hw alone mem => ?_⟩
    · rw [hgas.1]; exact hsame.filter
    · rw [hgas.1]; exact hsame.filterAgree
    · rw [hgas.1]; exact hstate.1
    · rw [hgas.1]; exact hstate.2
    · rw [hgas.1, State.setGas_gas (s := s.filterFlipped .low) trip.symm]
      rfl
    · exact State.setGas_trip_ends (s := s.filterFlipped .low) trip ⟨hw.busy, hw.names, hw.named, hw.state⟩ alone mem .tripInput

end Sys2Proof.Machine
end

section
/-! PROOF. A report of the gas sensor (R114, R115), and a change of its address (R113). -/

namespace Sys2Proof.Machine

open Sys2Proof

/-! ## A report of the gas sensor (R114, R115) -/

/-- The Gas Supervisor when its sensor is heard. -/
def Gas.heard (g : Gas) (lost : Timer) : Gas :=
  if g.sensor = .lost then
    { g with lost := lost, sensor := .live, qualifier := { state := true },
             reason := if g.state = .hold then .concentration else g.reason }
  else { g with lost := lost }

theorem State.hearSensor_eq (s : State) : s.hearSensor = s.modGas fun g => g.heard s.lostLength := by
  unfold State.hearSensor Gas.heard
  by_cases lost : s.gas.sensor = .lost
  · by_cases hold : s.gas.state = .hold
    · have hset : ∀ u : State, u.gas.state = .hold → u.setGas .hold .concentration = u.modGas fun g => { g with reason := .concentration } :=
        fun u h => by rw [← u.setGas_same, h]
      simp only [State.modGas_gas, lost, hold, if_true]
      refine (hset ((s.modGas fun g => { g with lost := s.lostLength }).modGas fun g =>
        { g with sensor := .live, qualifier := { state := true } }) hold).trans ?_
      unfold State.modGas
      simp only [lost, hold, if_true]
    · simp only [State.modGas_gas, lost, hold, if_true, if_false]
      unfold State.modGas
      simp only [lost, hold, if_true, if_false]
  · simp only [State.modGas_gas, lost, if_false]
    unfold State.modGas
    simp only [lost, if_false]

/-- The qualifier before the report is judged: HIGH when a LOST sensor is heard again. -/
def Gas.heardQualifier (g : Gas) : Qualifier := if g.sensor = .lost then { state := true, agree := 0 } else g.qualifier

theorem Gas.heard_fields (g : Gas) (lost : Timer) :
    (g.heard lost).qualifier = g.heardQualifier ∧ (g.heard lost).lost = lost ∧ (g.heard lost).state = g.state ∧
      (g.heard lost).sensor = (if g.sensor = .lost then .live else g.sensor) ∧
      (g.sensor = .lost → g.state = .hold → (g.heard lost).reason = .concentration) ∧
      (g.heard lost).bayStrings = g.bayStrings ∧ (g.heard lost).fan = g.fan := by
  unfold Gas.heard Gas.heardQualifier
  by_cases h : g.sensor = .lost
  · rw [if_pos h, if_pos h, if_pos h]
    exact ⟨rfl, rfl, rfl, rfl, fun _ hold => if_pos hold, rfl, rfl⟩
  · rw [if_neg h, if_neg h, if_neg h]
    exact ⟨rfl, rfl, rfl, rfl, fun lost => absurd lost h, rfl, rfl⟩

/-- A flip to HIGH in NORMAL holds, and starts a fan that is OFF. -/
theorem State.gasFlip_high {u : State} (h : u.gas.state = .normal) :
    (u.gasFlip true).gas.state = .hold ∧ (u.gasFlip true).gas.reason = .concentration ∧
      (u.gas.bayStrings = 0 → u.gas.fan = .off → u.site.fan ≠ 0 → (u.gasFlip true).gas.fan = .on) := by
  have heq : u.gasFlip true = u.setGas .hold .concentration := if_pos h
  rw [heq]
  refine ⟨(u.setGas_state _ _).1, (u.setGas_state _ _).2, fun none off fan => ?_⟩
  have before : u.gas.need = false := by simp [Gas.need, h, none]
  rw [State.setGas_follow (by rw [h]; decide) (by decide), before]
  unfold Gas.follow
  rw [if_neg fan]
  simp [Gas.need, off, Gas.driveStat]

/-- A flip to LOW in HOLD frees, and starts the run-on of a fan that is ON. -/
theorem State.gasFlip_low {u : State} (h : u.gas.state = .hold) :
    (u.gasFlip false).gas.state = .normal ∧ (u.gasFlip false).gas.reason = .none ∧ (u.gasFlip false).evalDue = true ∧
      (u.gas.bayStrings = 0 → u.gas.fan = .on → u.site.fan ≠ 0 → 0 < u.site.runOn →
        (u.gasFlip false).gas.fan = .runOn ∧ (u.gasFlip false).gas.runOn = .running (u.site.runOn * 60)) := by
  have heq : u.gasFlip false = u.setGas .normal .none := u.freeGas_hold h
  have hne : GasState.normal ≠ u.gas.state := by rw [h]; decide
  rw [heq]
  refine ⟨(u.setGas_state _ _).1, (u.setGas_state _ _).2, State.setGas_evalDue hne _, fun none on fan minutes => ?_⟩
  have before : u.gas.need = true := by simp [Gas.need, h]
  rw [State.setGas_follow hne (by decide), before]
  unfold Gas.follow
  rw [if_neg fan]
  simp [Gas.need, none, on, Gas.driveStat, minutes.ne']

theorem State.gasFlip_trip {u : State} (h : u.gas.state = .trip) (high : Bool) : u.gasFlip high = u := by
  unfold State.gasFlip
  split
  · exact if_neg (by rw [h]; decide)
  · exact State.freeGas_other (by rw [h]; decide)

/-- A report that is judged: the state before a flip acts. -/
theorem State.gasReported_judged {s : State} {src : Byte} (sensor : src = s.site.gasSensor) (fitted : s.site.gasSensor ≠ 0) (c : Nat) :
    s.gasReported src c false =
      if (s.gas.heardQualifier.takeGas s.site.holdThreshold s.site.releaseThreshold c).state = s.gas.heardQualifier.state then
        s.hearSensor.qualifyGas c
      else (s.hearSensor.qualifyGas c).gasFlip (s.gas.heardQualifier.takeGas s.site.holdThreshold s.site.releaseThreshold c).state := by
  have hq := (s.gas.heard_fields s.lostLength).1
  have hheard : s.hearSensor.gas.qualifier = s.gas.heardQualifier := by rw [State.hearSensor_eq]; exact hq
  have hjudged : (s.hearSensor.qualifyGas c).gas.qualifier =
      s.gas.heardQualifier.takeGas s.site.holdThreshold s.site.releaseThreshold c := by
    rw [State.hearSensor_eq, ← hq]
    rfl
  rw [State.gasReported_eq, if_neg (not_or.2 ⟨fun h => h sensor, not_or.2 ⟨fitted, nofun⟩⟩), hjudged, hheard]

/-- Settles O46. -/
theorem gasReportJudged : Obligations.GasReportJudged := by
  intro s src c
  refine ⟨fun fault h => if_pos h, fun sensor fitted => ?_⟩
  intro t before after
  have ht : t = if after.state = before.state then s.hearSensor.qualifyGas c
      else (s.hearSensor.qualifyGas c).gasFlip after.state := State.gasReported_judged sensor fitted c
  obtain ⟨hq, hlost, hstate, hsensor, hreason, hcount, hfan⟩ := s.gas.heard_fields s.lostLength
  have hu : s.hearSensor.qualifyGas c = s.modGas fun g => { g.heard s.lostLength with qualifier := after } := by
    have hafter : after = (s.gas.heard s.lostLength).qualifier.takeGas s.site.holdThreshold s.site.releaseThreshold c := by
      rw [hq]; rfl
    rw [State.hearSensor_eq, hafter]
    rfl
  rw [hu] at ht
  set u := s.modGas fun g => { g.heard s.lostLength with qualifier := after } with hu
  have hsame : SensorSame u.gas t.gas := by
    rw [ht]
    split
    · exact .refl _
    · exact .gasFlip u _
  refine ⟨hsame.lost.trans hlost, hsame.qualifier, hsame.sensor.trans hsensor, fun agree => ?_, fun agree lost hold => ?_,
    fun trip => ?_, fun high low normal => ?_, fun low high hold => ?_⟩
  · rw [ht, if_pos agree]; exact hstate
  · rw [ht, if_pos agree]; exact hreason lost hold
  · have hun : u.gas.state = .trip := hstate.trans trip
    rw [ht, State.gasFlip_trip hun, ite_self, hun]
  · obtain ⟨hhold, hwhy, hon⟩ := u.gasFlip_high (hstate.trans normal)
    rw [ht, if_neg (by rw [high, low]; decide), high]
    exact ⟨hhold, hwhy, fun none off fan => hon (hcount.trans none) (hfan.trans off) fan⟩
  · obtain ⟨hnormal, hwhy, hdue, hrun⟩ := u.gasFlip_low (hstate.trans hold)
    rw [ht, if_neg (by rw [high, low]; decide), low]
    exact ⟨hnormal, hwhy, hdue, fun none on fan minutes => hrun (hcount.trans none) (hfan.trans on) fan minutes⟩

/-! ## A change of the gas sensor address (R113) -/

theorem FanMove.fanMoved (s : State) (old : Byte) : FanMove s (s.fanMoved old) := by
  have hrelease : FanMove s ((s.withdraw .fan).releaseHold old .fan) := (FanMove.setFp s _).trans (.releaseHold _ old)
  unfold State.fanMoved
  dsimp only
  split
  · exact hrelease.trans (.setFan _ _ _)
  · split
    · exact (hrelease.trans (.takeHold _ _)).trans (.offerFan _ true)
    · split
      · exact hrelease.trans (.fanStart _)
      · exact hrelease

/-- The state when a sensor is taken off. -/
def State.sensorNone (s : State) : State := s.modGas fun g => { g with sensor := .none, lost := .stopped, qualifier := {} }

/-- The state when a sensor has yet to be heard. -/
def State.sensorLost (s : State) : State :=
  s.modGas fun g => { g with sensor := .lost, lost := .stopped, qualifier := { state := true } }

theorem State.sensorSilent_eq (s : State) : s.sensorSilent = s.sensorLost.holdGas .sensorLost := rfl

theorem State.sensorMoved_eq (s : State) :
    s.sensorMoved = if s.site.gasSensor = 0 then s.sensorNone.freeGas else s.sensorSilent := rfl

/-- What the loss of a sensor leaves of the gas state. -/
theorem State.sensorSilent_state (s : State) : SensorSame s.sensorLost.gas s.sensorSilent.gas ∧
    (s.gas.state ≠ .trip → s.sensorSilent.gas.state = .hold ∧ s.sensorSilent.gas.reason = .sensorLost) ∧
      (s.gas.state = .trip → s.sensorSilent = s.sensorLost) := by
  refine ⟨.holdGas _ _, fun h => ?_, fun h => State.holdGas_trip (s := s.sensorLost) h _⟩
  rw [State.sensorSilent_eq, State.holdGas_other (s := s.sensorLost) h]
  exact s.sensorLost.setGas_state _ _

/-- The state after a Site record write, before a changed sensor address acts. -/
def State.siteFan (s : State) (x : Site) : State :=
  if x.fan = s.site.fan then { s with site := x } else State.fanMoved { s with site := x } s.site.fan

theorem State.applySite_eq (s : State) (x : Site) :
    s.applySite x = (if x.gasSensor = s.site.gasSensor then s.siteFan x else (s.siteFan x).sensorMoved).trigger := rfl

theorem FanMove.siteFan (s : State) (x : Site) : FanMove { s with site := x } (s.siteFan x) := by
  unfold State.siteFan
  split
  · exact .refl _
  · exact .fanMoved _ _

/-- Settles O17. -/
theorem gasSensorAddressChange : Obligations.GasSensorAddressChange := by
  intro s x changed g
  have hg : g = (s.siteFan x).sensorMoved.gas := by
    show (s.applySite x).gas = _
    rw [State.applySite_eq, if_neg changed]
    rfl
  have hsite : (s.siteFan x).site = x := (FanMove.siteFan s x).site
  have hgas : (s.siteFan x).gas = { s.gas with fan := (s.siteFan x).gas.fan, runOn := (s.siteFan x).gas.runOn } := (FanMove.siteFan s x).gas
  have hstate : (s.siteFan x).gas.state = s.gas.state ∧ (s.siteFan x).gas.reason = s.gas.reason := by
    rw [hgas]
    exact ⟨rfl, rfl⟩
  rw [State.sensorMoved_eq, hsite] at hg
  generalize s.siteFan x = u at hg hstate
  by_cases off : x.gasSensor = 0
  · rw [if_pos off] at hg
    have hsame := SensorSame.freeGas u.sensorNone
    refine ⟨by rw [hg]; exact hsame.lost, fun _ => ⟨by rw [hg]; exact hsame.sensor, by rw [hg]; exact hsame.qualifier, fun hold => ?_,
      fun other => ?_⟩, fun h => absurd off h⟩
    · rw [hg, State.freeGas_hold (s := u.sensorNone) (hstate.1.trans hold)]
      exact u.sensorNone.setGas_state _ _
    · rw [hg, State.freeGas_other (s := u.sensorNone) (by show u.gas.state ≠ _; rw [hstate.1]; exact other)]
      exact hstate
  · rw [if_neg off] at hg
    obtain ⟨hsame, hhold, htrip⟩ := u.sensorSilent_state
    refine ⟨by rw [hg]; exact hsame.lost, fun h => absurd h off, fun _ => ⟨by rw [hg]; exact hsame.sensor,
      by rw [hg]; exact hsame.qualifier, fun other => ?_, fun trip => ?_⟩⟩
    · rw [hg]
      exact hhold (by rw [hstate.1]; exact other)
    · have hut := hstate.1.trans trip
      rw [hg, htrip hut]
      exact ⟨hut, hstate.2⟩

end Sys2Proof.Machine
end

section
/-! PROOF. The timers of the Gas Supervisor and the fan (R116, R119 to R121), and a Site record write (R178). -/

namespace Sys2Proof.Machine

open Sys2Proof

/-! ## The fan's commands, exactly (R120, R121) -/

/-- `t` is `u` with FAN_CMD offered, and with this Gas Supervisor. The node and the site are those of `s`. -/
structure FanOffer (s u t : State) (on : Bool) (g : Gas) : Prop where
  taken : u.fp.offers = [] → u.fp.chain.localQ.length < 8 →
    t.fp.chain = u.fp.chain.pushLocal (cmdFrame s.own (.fan s.site.fan on)) ∧ t.fp.offers = []
  waits : u.fp.offers ≠ [] ∨ 8 ≤ u.fp.chain.localQ.length →
    t.fp.chain = u.fp.chain ∧ t.fp.offers = u.fp.offers ++ [⟨.fan, .fan s.site.fan on⟩]
  eq : t = { u with fp := { u.fp with chain := t.fp.chain, offers := t.fp.offers }, gas := g }

theorem State.offerFan_offer {s u : State} (own : u.own = s.own) (site : u.site = s.site) (g : Gas) (on : Bool) :
    FanOffer s u (({ u with gas := g } : State).offerFan on) on g := by
  unfold State.offerFan
  by_cases room : u.fp.offers = [] ∧ u.fp.chain.localQ.length < 8
  · rw [if_pos ((State.offerRoom_iff { u with gas := g }).2 room)]
    refine ⟨fun _ _ => ⟨?_, room.1⟩, fun h => ?_, rfl⟩
    · rw [← own, ← site]
      rfl
    · obtain h | h := h
      · exact absurd room.1 h
      · exact absurd room.2 h.not_gt
  · rw [if_neg ((State.offerRoom_iff { u with gas := g }).not.2 room)]
    refine ⟨fun h k => absurd ⟨h, k⟩ room, fun _ => ⟨rfl, ?_⟩, rfl⟩
    rw [← site]
    rfl

theorem State.offerUp_withGas (g : Gas) (s : State) (f : Frame) : ({ s with gas := g } : State).offerUp f = { s.offerUp f with gas := g } := by
  unfold State.offerUp
  by_cases room : s.noticeRoom = true
  · rw [if_pos (show ({ s with gas := g } : State).noticeRoom = true from room), if_pos room]
    rfl
  · rw [if_neg (show ¬({ s with gas := g } : State).noticeRoom = true from room), if_neg room]
    rfl

theorem State.foldl_reject_withGas (g : Gas) (h : Holder) (l : List Frame) : ∀ s : State,
    l.foldl (fun s f => s.offerUp (rejectFrame s.own f h)) { s with gas := g } =
      { l.foldl (fun s f => s.offerUp (rejectFrame s.own f h)) s with gas := g } := by
  induction l with
  | nil => exact fun _ => rfl
  | cons f l ih =>
    intro s
    rw [List.foldl_cons, List.foldl_cons, ← ih]
    exact congrArg (fun t => List.foldl (fun s f => State.offerUp s (rejectFrame s.own f h)) t l)
      (State.offerUp_withGas g s (rejectFrame s.own f h))

/-- A take does not look at the Gas Supervisor. -/
theorem State.takeHold_withGas (g : Gas) (s : State) (a : Byte) (h : Holder) :
    ({ s with gas := g } : State).takeHold a h = { s.takeHold a h with gas := g } := by
  cases held : s.holderOf a with
  | some x => rw [s.takeHold_held a h x held, State.takeHold_held { s with gas := g } a h x held]
  | none =>
    rw [s.takeHold_free a h held, State.takeHold_free { s with gas := g } a h held]
    exact State.foldl_reject_withGas g h (s.fp.chain.forwardQ.filter (purges a))
      (State.modPort { s with holds := insertHold ⟨a, h⟩ s.holds } .chain fun q => { q with forwardQ := q.forwardQ.filter (!purges a ·) })

theorem State.takeHold_site (s : State) (a : Byte) (h : Holder) : (s.takeHold a h).site = s.site := by rw [State.takeHold_eq]

theorem State.takeHold_own (s : State) (a : Byte) (h : Holder) : (s.takeHold a h).own = s.own := by rw [State.takeHold_eq]; rfl

/-- The offers without the fan's. -/
def State.otherOffers (s : State) : List Offer := s.fp.offers.filter (·.activity ≠ .fan)

/-- The start: the hold is taken, then ON is offered. -/
theorem State.fanStart_offer {s b : State} (own : b.own = s.own) (site : b.site = s.site) (g : Gas) :
    FanOffer s ((b.withdraw .fan).takeHold s.site.fan .fan) ({ b with gas := g } : State).fanStart true
      { g with fan := .on, runOn := .stopped } := by
  have heq : ({ b with gas := g } : State).fanStart =
      ((({ b.withdraw .fan with gas := { g with fan := .on, runOn := .stopped } } : State).takeHold s.site.fan .fan)).offerFan true := by
    rw [← site]
    rfl
  rw [heq, State.takeHold_withGas { g with fan := .on, runOn := .stopped } (b.withdraw .fan)]
  exact State.offerFan_offer ((State.takeHold_own (b.withdraw .fan) s.site.fan .fan).trans own)
    ((State.takeHold_site (b.withdraw .fan) s.site.fan .fan).trans site) { g with fan := .on, runOn := .stopped } true

/-- The stop: OFF is offered, and the hold released. -/
structure FanStopped (s t : State) (g : Gas) : Prop where
  offer : FanOffer s (s.withdraw .fan) { t with holds := s.holds } false { g with fan := .off, runOn := .stopped }
  holds : t.holds = s.holds.filter (· ≠ ⟨s.site.fan, .fan⟩)

theorem State.fanStop_stopped (s : State) (g : Gas) : FanStopped s ({ s with gas := g } : State).fanStop g := by
  have hoffer := State.offerFan_offer (s := s) (u := s.withdraw .fan) rfl rfl { g with fan := .off, runOn := .stopped } false
  have hholds : ∀ (u : State) on, (u.offerFan on).holds = u.holds := fun u on => by
    unfold State.offerFan
    split <;> rfl
  have heq : ({ s with gas := g } : State).fanStop =
      ((({ s.withdraw .fan with gas := { g with fan := .off, runOn := .stopped } } : State).offerFan false)).releaseHold s.site.fan .fan := rfl
  rw [heq]
  have hsame := hholds ({ s.withdraw .fan with gas := { g with fan := .off, runOn := .stopped } } : State) false
  generalize ({ s.withdraw .fan with gas := { g with fan := .off, runOn := .stopped } } : State).offerFan false = v at hoffer hsame
  have hv : v.holds = s.holds := hsame
  have hback : ({ v.releaseHold s.site.fan .fan with holds := s.holds } : State) = v := by
    rw [← hv]
    rfl
  refine ⟨?_, ?_⟩
  · rw [hback]; exact hoffer
  · rw [State.releaseHold_holds, hv]

theorem Gas.need_iff (g : Gas) : g.need = true ↔ 0 < g.bayStrings ∨ g.state ≠ .normal := by
  unfold Gas.need
  rw [Bool.or_eq_true, decide_eq_true_iff, decide_eq_true_iff]

theorem Gas.follow_arises {g : Gas} {fan : Byte} (fitted : fan ≠ 0) (need : g.need = true) (minutes : Nat) :
    g.follow fan minutes false = if g.fan = .on then g else { g with fan := .on, runOn := .stopped } := by
  unfold Gas.follow
  rw [if_neg fitted, need]
  rfl

/-! ### The fan follows its need (R120) -/

section
variable {s : State} {g : Gas}

theorem State.fanFollow_none (h : s.site.fan = 0 ∨ (s.gas.need = true ↔ g.need = true)) :
    ({ s with gas := g } : State).fanFollow s.gas.need = { s with gas := g } := by
  unfold State.fanFollow
  obtain h | h := h
  · exact if_pos h
  · have hneed : s.gas.need = g.need := Bool.eq_iff_iff.2 h
    rw [hneed]
    cases g.need <;> simp

theorem State.fanFollow_arises (fan : s.site.fan ≠ 0) (before : ¬s.gas.need = true) (after : g.need = true) :
    ({ s with gas := g } : State).fanFollow s.gas.need = ({ s with gas := g } : State).needArises := by
  rw [Bool.not_eq_true] at before
  unfold State.fanFollow
  rw [before, show ({ s with gas := g } : State).gas.need = true from after]
  exact if_neg fan

theorem State.fanFollow_ends (fan : s.site.fan ≠ 0) (before : s.gas.need = true) (after : ¬g.need = true) :
    ({ s with gas := g } : State).fanFollow s.gas.need = ({ s with gas := g } : State).needEnds := by
  rw [Bool.not_eq_true] at after
  unfold State.fanFollow
  rw [before, show ({ s with gas := g } : State).gas.need = false from after]
  exact if_neg fan

end

theorem State.needArises_off {s : State} (h : s.gas.fan = .off) : s.needArises = s.fanStart := by
  unfold State.needArises
  rw [h]

theorem State.needArises_on {s : State} (h : s.gas.fan = .on) : s.needArises = s := by
  unfold State.needArises
  rw [h]

theorem State.needArises_runOn {s : State} (h : s.gas.fan = .runOn) :
    s.needArises = s.modGas fun g => { g with fan := .on, runOn := .stopped } := by
  unfold State.needArises
  rw [h]

theorem State.needEnds_on {s : State} (h : s.gas.fan = .on) :
    s.needEnds = if s.site.runOn = 0 then s.fanStop
      else s.modGas fun g => { g with fan := .runOn, runOn := .running (s.site.runOn * 60) } := by
  unfold State.needEnds
  rw [h]

theorem State.needEnds_other {s : State} (h : s.gas.fan ≠ .on) : s.needEnds = s := by
  unfold State.needEnds
  split
  · exact absurd ‹_› h
  · rfl

/-! ### The loss of the sensor (R116) -/

theorem State.fanStart_isSome (s : State) : (s.fanStart.holderOf s.site.fan).isSome = true := by
  have hoffer : ∀ (u : State) (on : Bool), (u.offerFan on).holderOf s.site.fan = u.holderOf s.site.fan := fun u on => by
    unfold State.offerFan
    split <;> rfl
  unfold State.fanStart
  rw [hoffer]
  exact State.takeHold_isSome _ _ _

/-- The state as a sensor that falls silent in NORMAL leaves it. -/
theorem State.sensorSilent_normal {s : State} (h : s.gas.state = .normal) :
    s.sensorSilent = s.sensorLost.setGas .hold .sensorLost :=
  State.holdGas_other (s := s.sensorLost) (by show s.gas.state ≠ _; rw [h]; decide) _

/-- In NORMAL the fan starts with the loss of the sensor, when no string is in a bay state. -/
theorem State.sensorSilent_fan {s : State} (normal : s.gas.state = .normal) (fan : s.site.fan ≠ 0) (none : s.gas.bayStrings = 0) :
    s.sensorSilent.gas.fan = .on ∧ s.sensorSilent.gas.runOn = (if s.gas.fan = .on then s.gas.runOn else .stopped) ∧
      (s.gas.fan = .off → (s.sensorSilent.holderOf s.site.fan).isSome = true) := by
  have hne : GasState.hold ≠ s.sensorLost.gas.state := by show _ ≠ s.gas.state; rw [normal]; decide
  have before : s.sensorLost.gas.need = false := by simp [Gas.need, State.sensorLost, normal, none]
  have hgas := State.setGas_follow hne (by decide) .sensorLost
  rw [State.sensorSilent_normal normal, hgas, before]
  have hfollow : ({ s.sensorLost.gas with state := .hold, reason := .sensorLost } : Gas).follow s.site.fan s.site.runOn false =
      if s.gas.fan = .on then { s.sensorLost.gas with state := .hold, reason := .sensorLost }
      else { s.sensorLost.gas with state := .hold, reason := .sensorLost, fan := .on, runOn := .stopped } :=
    Gas.follow_arises fan ((Gas.need_iff _).2 (.inr fun h : GasState.hold = .normal => nomatch h)) _
  refine ⟨?_, ?_, fun off => ?_⟩
  · refine (congrArg Gas.fan (congrArg Gas.driveStat hfollow)).trans ?_
    split
    · exact ‹_›
    · rfl
  · refine (congrArg Gas.runOn (congrArg Gas.driveStat hfollow)).trans ?_
    split <;> rfl
  · rw [State.setGas_change hne, before]
    have hgasOf := State.gasChangeEq_gas (s := s.sensorLost.gasWritten .hold .sensorLost) nofun s.sensorLost.gas.state
    have hsite := (Kept.gasChangeEq (s.sensorLost.gasWritten .hold .sensorLost) s.sensorLost.gas.state).site
    generalize (s.sensorLost.gasWritten .hold .sensorLost).gasChangeEq s.sensorLost.gas.state = v at hgasOf hsite
    have hstart : v.trigger.fanFollow false = v.trigger.fanStart := by
      have hneed : v.trigger.gas.need = true := by
        show v.gas.need = true
        rw [hgasOf]
        exact (Gas.need_iff _).2 (.inr nofun)
      have hoff : v.trigger.gas.fan = .off := by
        show v.gas.fan = .off
        rw [hgasOf]
        exact off
      unfold State.fanFollow
      rw [hneed, if_neg (show v.trigger.site.fan ≠ 0 by show v.site.fan ≠ 0; rw [hsite]; exact fan)]
      exact State.needArises_off hoff
    rw [hstart]
    have hsome := v.trigger.fanStart_isSome
    have hfan : v.trigger.site.fan = s.site.fan := by show v.site.fan = _; rw [hsite]; rfl
    rw [hfan] at hsome
    exact hsome

/-- In NORMAL a string that is EQUALISING is HELD by the loss of the sensor. -/
theorem State.sensorSilent_held {s : State} (normal : s.gas.state = .normal) {b : BayNo} {i : StringNo} (hw : Working s b i .equalising) :
    (s.sensorSilent.settle.str i).state = .held := by
  have hne : GasState.hold ≠ s.sensorLost.gas.state := by show _ ≠ s.gas.state; rw [normal]; decide
  have hheld := State.gasChangeEq_held (s := s.sensorLost.gasWritten .hold .sensorLost) rfl (b := b) (i := i) hw.names hw.state
  have hold : s.sensorLost.gas.state = .normal := normal
  rw [← hold, ← (State.setGas_rest hne .sensorLost).1 i, ← State.sensorSilent_normal normal] at hheld
  generalize s.sensorSilent = u at hheld
  have hstr : u.settle.str i = u.str i := (Grants.settle u).working i (by
    show (u.str i).state ≠ _
    rw [hheld]
    decide)
  rw [hstr, hheld]

/-- In HOLD the loss of the sensor changes the reason alone. -/
theorem State.sensorSilent_hold {s : State} (h : s.gas.state = .hold) :
    s.sensorSilent = s.sensorLost.modGas fun g => { g with reason := .sensorLost } := by
  have hstate : s.sensorLost.gas.state = .hold := h
  rw [State.sensorSilent_eq, State.holdGas_other (by rw [hstate]; decide), ← State.setGas_same, hstate]

end Sys2Proof.Machine
end

section
/-! PROOF. The two obligations on the gas timers with the fan, and on a Site record write (R116, R119 to R121, R178). -/

namespace Sys2Proof.Machine

open Sys2Proof

/-! ## The lost timer and the run-on (R116, R120) -/

theorem State.sensorSilent_settle (s : State) :
    s.sensorSilent.settle.gas = s.sensorSilent.gas ∧ s.sensorSilent.settle.bays = s.sensorSilent.bays := by
  by_cases trip : s.gas.state = .trip
  · refine State.settle_held ?_
    rw [s.sensorSilent_state.2.2 trip]
    show s.gas.state ≠ _
    rw [trip]
    decide
  · refine State.settle_held ?_
    rw [(s.sensorSilent_state.2.1 trip).1]
    decide

theorem State.lostTimerExpiry_late {s : State} (live : s.gas.sensor = .live) (due : s.gas.lost = .running 0) :
    exec .lostTimerExpiry s = .next s.sensorSilent.settle :=
  congrArg Host.Outcome.next (if_pos ⟨live, (Timer.due_iff _).2 due⟩)

theorem State.lostTimerExpiry_early {s : State} (h : s.gas.lost ≠ .running 0) : exec .lostTimerExpiry s = .next s :=
  congrArg Host.Outcome.next (if_neg fun due => h ((Timer.due_iff _).1 due.2))

/-- What the obligation says of an expiry of the lost timer. -/
theorem State.sensorSilent_outcome (s : State) :
    let t := s.sensorSilent.settle
    t.gas.sensor = .lost ∧ t.gas.lost = .stopped ∧ t.gas.qualifier = { state := true, agree := 0 } ∧
      (s.gas.state = .normal → t.gas.state = .hold ∧ t.gas.reason = .sensorLost ∧ t.gas.stat = true ∧
        (s.site.fan ≠ 0 → s.gas.bayStrings = 0 → t.gas.fan = .on ∧ t.gas.runOn =
          (if s.gas.fan = .on then s.gas.runOn else .stopped)) ∧
        (s.site.fan ≠ 0 → s.gas.bayStrings = 0 → s.gas.fan = .off → t.holderOf s.site.fan ≠ none) ∧
        ∀ b i, Working s b i .equalising → (t.str i).state = .held) ∧
      (s.gas.state = .hold → t.gas.state = .hold ∧ t.gas.reason = .sensorLost) ∧
      (s.gas.state = .trip → t.gas.state = .trip ∧ t.gas.reason = s.gas.reason) := by
  intro t
  obtain ⟨hsame, hother, htrip⟩ := s.sensorSilent_state
  have hgas : t.gas = s.sensorSilent.gas := s.sensorSilent_settle.1
  rw [hgas]
  refine ⟨hsame.sensor, hsame.lost, hsame.qualifier, fun normal => ?_, fun hold => hother (by rw [hold]; decide), fun trip => ?_⟩
  · obtain ⟨hstate, hwhy⟩ := hother (by rw [normal]; decide)
    refine ⟨hstate, hwhy, ?_, fun fan none => ?_, fun fan none off => ?_, fun b i hw => State.sensorSilent_held normal hw⟩
    · rw [State.sensorSilent_normal normal, State.setGas_stat (by show _ ≠ s.gas.state; rw [normal]; decide)]
      rfl
    · exact ⟨(State.sensorSilent_fan normal fan none).1, (State.sensorSilent_fan normal fan none).2.1⟩
    · have hsome := (State.sensorSilent_fan normal fan none).2.2 off
      have hholds : s.sensorSilent.holds ⊆ t.holds := (Grants.settle s.sensorSilent).holds
      rw [← Option.isSome_iff_ne_none]
      exact State.holderOf_isSome_of_subset hholds hsome
  · rw [htrip trip]
    exact ⟨trip, rfl⟩

theorem State.sensorSilent_bays {s : State} (h : s.gas.state ≠ .normal) : s.sensorSilent.settle.bays = s.bays := by
  rw [s.sensorSilent_settle.2]
  by_cases trip : s.gas.state = .trip
  · rw [s.sensorSilent_state.2.2 trip]
    rfl
  · have hold : s.gas.state = .hold := by
      cases hs : s.gas.state with
      | normal => exact absurd hs h
      | hold => rfl
      | trip => exact absurd hs trip
    rw [State.sensorSilent_hold hold]
    rfl

theorem State.runOnExpired_due {s : State} (fan : s.gas.fan = .runOn) (due : s.gas.runOn = .running 0) :
    s.runOnExpired = s.fanStop := if_pos ⟨fan, (Timer.due_iff _).2 due⟩

theorem State.runOnExpired_early {s : State} (h : s.gas.runOn ≠ .running 0) : s.runOnExpired = s :=
  if_neg fun due => h ((Timer.due_iff _).1 due.2)

/-! ## A changed fan address (R121) -/

/-- The state when the fan's waiting offer and the old hold are gone. -/
def State.fanReleased (s : State) (old : Byte) : State := (s.withdraw .fan).releaseHold old .fan

theorem State.fanReleased_withdraw (s : State) (old : Byte) : (s.fanReleased old).withdraw .fan = s.fanReleased old := by
  unfold State.fanReleased State.withdraw State.releaseHold
  simp only [List.filter_filter, Bool.and_self]

theorem State.fanMoved_none {s : State} (h : s.site.fan = 0) (old : Byte) :
    s.fanMoved old = { s.fanReleased old with gas := { s.gas with fan := .off, runOn := .stopped } } := if_pos h

theorem State.fanMoved_runs {s : State} (fan : s.site.fan ≠ 0) (runs : s.gas.fan ≠ .off) (old : Byte) :
    s.fanMoved old = ((s.fanReleased old).takeHold s.site.fan .fan).offerFan true :=
  (if_neg fan).trans (if_pos runs)

theorem State.fanMoved_starts {s : State} {old : Byte} (fan : s.site.fan ≠ 0) (off : s.gas.fan = .off) (zero : old = 0)
    (need : s.gas.need = true) : s.fanMoved old = (s.fanReleased old).fanStart :=
  (if_neg fan).trans ((if_neg (not_not.2 off)).trans (if_pos ⟨zero, need⟩))

theorem State.fanMoved_stays {s : State} {old : Byte} (fan : s.site.fan ≠ 0) (off : s.gas.fan = .off)
    (h : ¬(old = 0 ∧ s.gas.need = true)) : s.fanMoved old = s.fanReleased old :=
  (if_neg fan).trans ((if_neg (not_not.2 off)).trans (if_neg h))

/-! ## The obligation on the gas timers -/

/-- Settles O44. -/
theorem gasTimersExpire : Obligations.GasTimersExpire := by
  intro s others offered need started stopped follows
  have hneed : ∀ g : Gas, g.need = true ↔ need g := fun g => g.need_iff
  have hstarted : ∀ (base u t : State) (g : Gas), u = { base with fp := { s.fp with offers := others } } →
      FanOffer s (u.takeHold s.site.fan .fan) t true g → started base t g :=
    fun base u t g hu h => by subst hu; exact ⟨⟨h.taken, h.waits⟩, h.eq⟩
  have hstopped : ∀ (g : Gas), stopped ({ s with gas := g } : State).fanStop g := fun g => by
    have h := s.fanStop_stopped g
    generalize ({ s with gas := g } : State).fanStop = t at h
    refine ⟨⟨h.offer.taken, h.offer.waits⟩, ?_⟩
    have hback : t = { ({ t with holds := s.holds } : State) with holds := t.holds } := rfl
    rw [hback, h.offer.eq, h.holds]
    rfl
  have hfollows : ∀ g : Gas, g.fan = s.gas.fan → follows (({ s with gas := g } : State).fanFollow s.gas.need) g := by
    intro g hfan
    refine ⟨fun h => State.fanFollow_none (h.imp_right fun h => (hneed _).trans (h.trans (hneed g).symm)),
      fun fan before after => ?_, fun fan before after => ?_⟩
    · rw [State.fanFollow_arises fan (fun h => before ((hneed _).1 h)) ((hneed g).2 after)]
      refine ⟨fun off => ?_, fun on => State.needArises_on (s := { s with gas := g }) (hfan.trans on),
        fun runOn => State.needArises_runOn (s := { s with gas := g }) (hfan.trans runOn)⟩
      rw [State.needArises_off (s := { s with gas := g }) (hfan.trans off)]
      exact hstarted s (s.withdraw .fan) _ _ rfl (State.fanStart_offer (b := s) rfl rfl g)
    · rw [State.fanFollow_ends fan ((hneed _).2 before) (fun h => after ((hneed g).1 h))]
      refine ⟨fun on minutes => ?_, fun on zero => ?_, fun other => State.needEnds_other (s := { s with gas := g }) (by
        show g.fan ≠ _; rw [hfan]; exact other)⟩
      · rw [State.needEnds_on (s := { s with gas := g }) (hfan.trans on)]
        exact if_neg minutes.ne'
      · rw [State.needEnds_on (s := { s with gas := g }) (hfan.trans on), if_pos (show ({ s with gas := g } : State).site.runOn = 0 from zero)]
        exact hstopped g
  refine ⟨fun _ live due => ⟨_, State.lostTimerExpiry_late live due, ?_⟩, State.lostTimerExpiry_early, fun quiet fan due => ?_,
    fun quiet early => ?_, hfollows _ rfl, hfollows _ rfl, fun old => ?_⟩
  · obtain ⟨hsensor, hlost, hq, hnormal, hhold, htrip⟩ := s.sensorSilent_outcome
    exact ⟨hsensor, hlost, hq, hnormal, fun hold => ⟨(hhold hold).1, (hhold hold).2, State.sensorSilent_bays (by rw [hold]; decide)⟩,
      fun trip => ⟨(htrip trip).1, (htrip trip).2, State.sensorSilent_bays (by rw [trip]; decide)⟩⟩
  · refine ⟨s.fanStop, congrArg Host.Outcome.next ?_, hstopped s.gas⟩
    rw [State.runOnExpired_due fan due]
    exact State.settle_quiet ((FanMove.fanStop s).evalDue.trans quiet)
  · refine congrArg Host.Outcome.next ?_
    rw [State.runOnExpired_early early]
    exact State.settle_quiet quiet
  · have hbase : (s.fanReleased old).withdraw .fan = s.fanReleased old := s.fanReleased_withdraw old
    refine ⟨fun h => State.fanMoved_none h old, fun fan runs => ?_, fun fan off zero hn => ?_, fun fan off h => ?_⟩
    · refine hstarted _ (s.fanReleased old) _ _ rfl ?_
      rw [State.fanMoved_runs fan runs]
      have hoffer := State.offerFan_offer (s := s) (u := (s.fanReleased old).takeHold s.site.fan .fan)
        ((State.takeHold_own _ _ _).trans rfl) ((State.takeHold_site _ _ _).trans rfl) s.gas true
      have hgas : ((s.fanReleased old).takeHold s.site.fan .fan).gas = s.gas := State.takeHold_gas _ _ _
      have hsame : ({ (s.fanReleased old).takeHold s.site.fan .fan with gas := s.gas } : State) = (s.fanReleased old).takeHold s.site.fan .fan := by
        rw [← hgas]
      rw [hsame] at hoffer
      exact hoffer
    · refine hstarted _ (s.fanReleased old) _ _ rfl ?_
      rw [State.fanMoved_starts fan off zero ((hneed _).2 hn)]
      have hstart := State.fanStart_offer (s := s) (b := s.fanReleased old) rfl rfl s.gas
      rw [hbase] at hstart
      exact hstart
    · exact State.fanMoved_stays fan off fun hz => h ⟨hz.1, (hneed _).1 hz.2⟩

/-! ## A Site record write (R178) -/

theorem Kept.fanMoved (s : State) (old : Byte) : Kept s (s.fanMoved old) := by
  have hrelease : Kept s (s.fanReleased old) := (Kept.withdraw s _).trans (Kept.releaseHold _ _ _)
  unfold State.fanMoved
  dsimp only
  split
  · exact hrelease.trans (Kept.modGas _ _)
  · split
    · exact (hrelease.trans (Kept.takeHold _ _ _)).trans (Kept.offerFan _ _)
    · split
      · exact hrelease.trans (Kept.fanStart _)
      · exact hrelease

theorem Kept.sensorMoved (s : State) : Kept s s.sensorMoved := by
  rw [State.sensorMoved_eq]
  split
  · refine (Kept.modGas s fun g => { g with sensor := .none, lost := .stopped, qualifier := {} }).trans ?_
    by_cases h : s.gas.state = .hold
    · rw [State.freeGas_hold (s := s.sensorNone) h]; exact Kept.setGas _ _ _
    · rw [State.freeGas_other (s := s.sensorNone) h]; exact Kept.refl _
  · rw [State.sensorSilent_eq]
    refine (Kept.modGas s fun g => { g with sensor := .lost, lost := .stopped, qualifier := { state := true } }).trans ?_
    by_cases h : s.gas.state = .trip
    · rw [State.holdGas_trip (s := s.sensorLost) h]; exact Kept.refl _
    · rw [State.holdGas_other (s := s.sensorLost) h]; exact Kept.setGas _ _ _

/-- The state after an accepted Site record write, before the evaluation that follows. -/
def State.siteApplied (s : State) (x : Site) : State :=
  if x.gasSensor = s.site.gasSensor then s.siteFan x else (s.siteFan x).sensorMoved

theorem Kept.siteApplied (s : State) (x : Site) : Kept { s with site := x } (s.siteApplied x) := by
  have hfan : Kept { s with site := x } (s.siteFan x) := by
    unfold State.siteFan
    split
    · exact Kept.refl _
    · exact Kept.fanMoved _ _
  unfold State.siteApplied
  split
  · exact hfan
  · exact hfan.trans (Kept.sensorMoved _)

theorem State.siteConflict_iff (s : State) (x : Site) : s.siteConflict x = true ↔
    ((x.bays ≠ s.site.bays ∨ x.charger ≠ s.site.charger) ∧ ∃ b, (s.bay b).state ≠ .free) ∨ x.budget * 100 < s.busySum ∨
      (x.charger ≠ 0 ∧ ∀ e, s.mapped x.charger = some e → e.role ≠ .charger) ∨
      (x.gasSensor ≠ 0 ∧ ∀ e, s.mapped x.gasSensor = some e → e.role ≠ .gasSensor) ∨
      (x.fan ≠ 0 ∧ ∀ e, s.mapped x.fan = some e → e.role ≠ .fan) := by
  have hfree : s.baysFree = false ↔ ∃ b, (s.bay b).state ≠ .free := by
    rw [← Bool.not_eq_true, State.baysFree_iff, not_forall]
  simp only [← State.not_mappedAs_iff, ← hfree]
  unfold State.siteConflict
  simp only [Bool.or_eq_true, Bool.and_eq_true, decide_eq_true_eq, Bool.not_eq_true', or_assoc, or_and_right]

/-- Settles O16. -/
theorem siteRecordWritten : Obligations.SiteRecordWritten := by
  refine ⟨Site.inRange_iff, fun s src rest body hbody hs => ?_⟩
  intro u x conflict
  have hkind : requestKind ([0x01, 0x01] ++ body) = .writeSite := if_pos ⟨rfl, by simp [hbody]⟩
  have hconflict : conflict ↔ u.siteConflict x = true := (u.siteConflict_iff x).symm
  have hwrite : u.writeSite body = if (!x.inRange) = true then u.refuse .badRange
      else if u.siteConflict x = true then u.refuse .badState else ({ code := .ok }, (u.siteApplied x).trigger) := rfl
  have hdone : x.inRange = true → ¬conflict → exec .tableWriteSite s =
      .next (({ u.siteApplied x with evalDue := false }.evaluate).sendReply src 0x01 { code := .ok }) := by
    intro inside agrees
    rw [if_neg (by rw [inside]; decide), if_neg fun h => agrees (hconflict.2 h)] at hwrite
    have hsettle : (u.siteApplied x).trigger.settle = { u.siteApplied x with evalDue := false }.evaluate := State.settle_due _ rfl
    rw [← hsettle]
    exact congrArg Host.Outcome.next (hs.answered (answer := fun s args => s.writeSite (args.drop 1)) hkind hwrite)
  refine ⟨fun outside => ?_, fun inside hc => ?_, hdone, fun inside agrees => ⟨_, hdone inside agrees, ?_⟩,
    fun inside agrees sensor fan => ?_⟩
  · rw [if_pos (by rw [outside]; rfl)] at hwrite
    exact congrArg Host.Outcome.next (hs.refused (answer := fun s args => s.writeSite (args.drop 1)) hkind hwrite)
  · rw [if_neg (by rw [inside]; decide), if_pos (hconflict.1 hc)] at hwrite
    exact congrArg Host.Outcome.next (hs.refused (answer := fun s args => s.writeSite (args.drop 1)) hkind hwrite)
  · have hkept : Kept { u with site := x } ({ u.siteApplied x with evalDue := false } : State).evaluate :=
      ((Kept.siteApplied u x).trans (Kept.engine _ _ _ _ _ _ _ _ false)).trans (Kept.evaluate _)
    exact ⟨hkept.site, hkept.silenceTimeout, hkept.profiles, hkept.sourceMap, hkept.clock, hkept.ceiling⟩
  · have happlied : u.siteApplied x = { u with site := x } := (if_pos sensor).trans (if_pos fan)
    have hsettled : ({ ({ u with site := x } : State) with evalDue := false } : State) = { u with site := x } := by
      have hdue : s.evalDue = false := hs.settled
      show ({ ({ u with site := x } : State) with evalDue := false } : State) = { ({ u with site := x } : State) with evalDue := s.evalDue }
      rw [hdue]
    rw [hdone inside agrees, happlied, hsettled]

end Sys2Proof.Machine
end

section
/-! PROOF. Watering rounds: how a round ends, the next-fill step, and the fill timer (R125, R132, R133, R139, R142 to R146). -/

namespace Sys2Proof.Machine

open Sys2Proof

/-! ## The end of a round (R143 to R146) -/

/-- Q of the round's string after a round that ends so (R144). -/
def State.settledQ (s : State) (i : StringNo) (e : EndRec) : Nat :=
  if e.cause = .allFull ∧ s.water.round.build = some .full then 0
  else reduceQ (s.str i).q s.water.round.total (s.str i).cfg.cellCount (s.profile i).gassing

/-- Q settled, and the string back in FLOAT. -/
def State.roundString (s : State) (i : StringNo) (e : EndRec) : State :=
  (s.modStr i fun r => { r with q := (
    if e.cause = .allFull ∧ s.water.round.build = some .full then 0
    else reduceQ r.q s.water.round.total r.cfg.cellCount (s.profile i).gassing) }).modStr i fun r => { r with state := .float }

/-- The state a round end leaves, before its result is posted. -/
def State.roundCleared (s : State) (i : StringNo) (e : EndRec) : State :=
  { s with strings := (s.roundString i e).strings, water := { s.water with round := {} },
           holds := s.holds.filter (·.holder ≠ .manifold), evalDue := true }

theorem State.roundCleared_str (s : State) (i : StringNo) (e : EndRec) :
    (s.roundCleared i e).str i = { s.str i with state := .float, q := s.settledQ i e } := by
  show (s.roundString i e).str i = _
  unfold State.roundString State.settledQ
  rw [State.str_modStr, State.str_modStr]

theorem State.roundCleared_str_ne (s : State) {i j : StringNo} (h : j ≠ i) (e : EndRec) : (s.roundCleared i e).str j = s.str j := by
  show (s.roundString i e).str j = _
  unfold State.roundString
  rw [State.str_modStr_ne _ i j _ h, State.str_modStr_ne _ i j _ h]

theorem State.settleQ_closed (s : State) (i : StringNo) (e : EndRec) (extra : Nat) :
    (s.modRound fun r => r.close e extra).settleQ i e =
      { s.settleQ i e with water := { s.water with round := s.water.round.close e extra } } := rfl

theorem State.roundCleared_eq (s : State) (i : StringNo) (e : EndRec) (extra : Nat) :
    ((((s.modRound fun r => r.close e extra).settleQ i e).releaseAll .manifold).enterFloat i).modRound (fun _ => {}) =
      s.roundCleared i e := by
  rw [State.settleQ_closed]
  rfl

theorem State.endRoundWith_named {s : State} {i : StringNo} (name : s.water.round.string = some i) (e : EndRec) (extra elapsed : Nat) :
    s.endRoundWith e extra elapsed =
      (s.roundCleared i e).post ((s.modRound fun r => r.close e extra).wateringResult i elapsed) := by
  have hname : (s.modRound fun r => r.close e extra).water.round.string = some i := name
  unfold State.endRoundWith
  dsimp only
  rw [hname]
  exact congrArg (State.post · ((s.modRound fun r => r.close e extra).wateringResult i elapsed)) (s.roundCleared_eq i e extra)

/-- The round of string `i` has ended between `s` and `t`. -/
structure RoundEnded (s t : State) (i : StringNo) (e : EndRec) (extra : Nat) : Prop where
  frame : t = { s.roundCleared i e with fp := t.fp, mgmt := t.mgmt }
  chain : t.fp.chain = s.fp.chain ∧ t.fp.offers = s.fp.offers
  posted : ∃ r, t.mgmt.results.getLast? = some r ∧ r.string = i ∧ r.cls = e.cls ∧ r.cause = e.cause ∧
    r.startMinute = s.water.round.startMinute ∧
    r.part = .watering s.water.round.filled s.water.round.total (s.water.round.fillList.length + extra) s.water.round.faulted

theorem State.endRoundWith_ends {s : State} {i : StringNo} (name : s.water.round.string = some i) (e : EndRec) (extra elapsed : Nat) :
    RoundEnded s (s.endRoundWith e extra elapsed) i e extra := by
  have hname := State.endRoundWith_named name e extra elapsed
  have hpost := (s.roundCleared i e).post_eq ((s.modRound fun r => r.close e extra).wateringResult i elapsed)
  have hmgmt := (s.roundCleared i e).post_mgmt ((s.modRound fun r => r.close e extra).wateringResult i elapsed)
  have hlast := (s.roundCleared i e).post_last ((s.modRound fun r => r.close e extra).wateringResult i elapsed)
  have hoffer := (s.roundCleared i e).post_offerUp ((s.modRound fun r => r.close e extra).wateringResult i elapsed)
  rw [← hname] at hpost hmgmt hlast hoffer
  refine ⟨?_, ?_, _, hlast, rfl, rfl, rfl, rfl, rfl⟩
  · rw [hmgmt]
    exact hpost
  · rw [hoffer]
    exact State.offerUp_chain _ _

theorem State.endRound_ends {s : State} {i : StringNo} (name : s.water.round.string = some i) (e : EndRec) (extra : Nat) :
    RoundEnded s (s.endRound e extra) i e extra := State.endRoundWith_ends name e extra _

section
variable {s t : State} {i : StringNo} {e : EndRec} {extra : Nat}

theorem RoundEnded.water (h : RoundEnded s t i e extra) : t.water = { s.water with round := {} } :=
  (congrArg State.water h.frame).trans rfl
theorem RoundEnded.holds (h : RoundEnded s t i e extra) : t.holds = s.holds.filter (·.holder ≠ .manifold) :=
  (congrArg State.holds h.frame).trans rfl
theorem RoundEnded.evalDue (h : RoundEnded s t i e extra) : t.evalDue = true :=
  (congrArg State.evalDue h.frame).trans rfl
theorem RoundEnded.requests (h : RoundEnded s t i e extra) : t.requests = s.requests :=
  (congrArg State.requests h.frame).trans rfl
theorem RoundEnded.bays (h : RoundEnded s t i e extra) : t.bays = s.bays :=
  (congrArg State.bays h.frame).trans rfl
theorem RoundEnded.gas (h : RoundEnded s t i e extra) : t.gas = s.gas :=
  (congrArg State.gas h.frame).trans rfl

theorem RoundEnded.str (h : RoundEnded s t i e extra) : t.str i = { s.str i with state := .float, q := s.settledQ i e } :=
  (congrArg (fun u : State => u.str i) h.frame).trans (s.roundCleared_str i e)

theorem RoundEnded.others (h : RoundEnded s t i e extra) {j : StringNo} (hj : j ≠ i) : t.str j = s.str j :=
  (congrArg (fun u : State => u.str j) h.frame).trans (s.roundCleared_str_ne hj e)

end

/-! ## The next-fill step (R132, R133) -/

section
variable {s : State} {i : StringNo}

theorem State.nextFill_empty (state : s.water.round.state = .filling) (fill : s.water.round.fill = none)
    (close : s.water.pendingClose = none) (list : s.water.round.fillList = []) :
    s.nextFill = s.endRound (emptyListEnd s.water.round) 0 := by
  unfold State.nextFill
  rw [if_pos ⟨state, fill, close⟩, list]
  split
  · rename_i heq; cases heq
  · rfl

theorem State.nextFill_uncovered {p : Position} {rest : List Position} (state : s.water.round.state = .filling)
    (fill : s.water.round.fill = none) (close : s.water.pendingClose = none) (string : s.water.round.string = some i)
    (list : s.water.round.fillList = p :: rest) (dry : s.water.available < s.volumeOf i p) :
    s.nextFill = s.endRound ⟨.abnormal, .tank⟩ 0 := by
  unfold State.nextFill
  rw [if_pos ⟨state, fill, close⟩]
  simp only [string, list]
  rw [if_pos dry]

/-- The fill of a cell that is opened. -/
def State.fillOf (s : State) (i : StringNo) (p : Position) (b : Binding) (ph : FillPhase) : Fill :=
  { pos := p, addr := b.addr, channel := b.channel, volume := s.volumeOf i p, maxOpen := s.maxOpenOf i p, phase := ph }

/-- The command that opens it. -/
def State.openCmd (s : State) (i : StringNo) (p : Position) (b : Binding) : ChainCmd :=
  .valveOpen b.addr b.channel s.site.pullIn (s.dutyOf i p) (s.maxOpenOf i p)

theorem State.openFill_taken {p : Position} {b : Binding} (bind : (s.cell i p).binding = some b) (room : s.offerRoom = true)
    (rest : List Position) : s.openFill i p rest = { s with
      fp := { s.fp with chain := s.fp.chain.pushLocal (cmdFrame s.own (s.openCmd i p b)) }
      water := { s.water with round := { s.water.round with
        fillList := rest, fill := some (s.fillOf i p b .outstanding), fillTimer := .running (s.maxOpenOf i p + 5)
        attempts := tset s.water.round.attempts p (s.water.round.attempts[p] + 1) } } } := by
  unfold State.openFill
  rw [bind]
  exact if_pos room

theorem State.openFill_waits {p : Position} {b : Binding} (bind : (s.cell i p).binding = some b) (full : s.offerRoom = false)
    (rest : List Position) : s.openFill i p rest = { s with
      fp := { s.fp with offers := s.fp.offers ++ [⟨.watering, s.openCmd i p b⟩] }
      water := { s.water with round := { s.water.round with
        fillList := rest, fill := some (s.fillOf i p b .offered)
        attempts := tset s.water.round.attempts p (s.water.round.attempts[p] + 1) } } } := by
  unfold State.openFill
  rw [bind]
  exact if_neg (by rw [← Bool.not_eq_true] at full; exact full)

end

theorem emptyListEnd_of_nil {r : Round} (h : r.faulted = []) : emptyListEnd r = ⟨.complete, .allFull⟩ := by
  unfold emptyListEnd
  rw [h]
  rfl

theorem emptyListEnd_of_ne {r : Round} (h : r.faulted ≠ []) : emptyListEnd r = ⟨.complete, .faults⟩ := by
  unfold emptyListEnd
  rw [if_neg (by rwa [List.isEmpty_iff])]

/-- Settles O47. -/
theorem nextFillStep : Obligations.NextFillStep := by
  intro s i state fill close string w ends
  have hends : ∀ e missed, RoundEnded s s.nextFill i e missed → ends e (w.fillList.length + missed) := by
    intro e missed h
    obtain ⟨r, hlast, hr⟩ := h.posted
    refine ⟨by rw [h.water], by rw [h.str], h.evalDue, h.holds, by rw [h.water], by rw [h.str]; rfl, r, hlast, hr⟩
  have hempty : w.fillList = [] → ends (emptyListEnd w) 0 := fun list => by
    have h := hends (emptyListEnd w) 0 (by
      rw [State.nextFill_empty state fill close list]
      exact State.endRound_ends string _ 0)
    rw [list] at h
    exact h
  refine ⟨fun list none => ?_, fun list some => ?_, fun p rest list => ?_⟩
  · rw [← emptyListEnd_of_nil none]; exact hempty list
  · rw [← emptyListEnd_of_ne some]; exact hempty list
  · intro volume maxOpen duty
    refine ⟨fun dry => ?_, fun b covered bind => ?_⟩
    · refine hends ⟨.abnormal, .tank⟩ 0 ?_
      rw [State.nextFill_uncovered state fill close string list dry]
      exact State.endRound_ends string _ 0
    · intro t cmd opened
      have ht : t = s.openFill i p rest := State.nextFill_open state fill close string list covered
      cases room : s.offerRoom with
      | true =>
        rw [State.openFill_taken bind room] at ht
        rw [ht]
        exact ⟨rfl, tset_self _ _ _, state, fun _ => ⟨rfl, rfl, rfl⟩, nofun⟩
      | false =>
        rw [State.openFill_waits bind room] at ht
        rw [ht]
        exact ⟨rfl, tset_self _ _ _, state, nofun, fun _ => ⟨rfl, rfl⟩⟩

/-! ## The fill timer (R139, R142) -/

/-- The round when its fill is given up for lost. -/
def Round.lostFill (r : Round) (f : Fill) : Round := { (r.fault f.pos .noReport) with fill := none, fillTimer := .stopped }

theorem State.offerClose_taken {s : State} (room : s.offerRoom = true) (addr channel : Byte) :
    s.offerClose addr channel = ({ s with
      fp := { s.fp with chain := s.fp.chain.pushLocal (cmdFrame s.own (.valveClose addr channel)) }
      water := { s.water with pendingClose := none } } : State).nextFill := if_pos room

theorem State.offerClose_waits {s : State} (full : s.offerRoom = false) (addr channel : Byte) :
    s.offerClose addr channel = { s with
      fp := { s.fp with offers := s.fp.offers ++ [⟨.watering, .valveClose addr channel⟩] }
      water := { s.water with pendingClose := some ⟨addr, channel⟩ } } :=
  if_neg (by rw [← Bool.not_eq_true] at full; exact full)

theorem State.fillExpired_eq (s : State) (f : Fill) : s.fillExpired f = (s.modRound (·.lostFill f)).offerClose f.addr f.channel := rfl

/-- The record of a cancelled round whose fill has run out. -/
def State.fillStopped (s : State) : State := s.modRound fun r => { r with fill := none, fillTimer := .stopped }

theorem State.finishCancelled_eq {s : State} {e : EndRec} (h : s.water.round.ended = some e) :
    s.finishCancelled = s.fillStopped.endRound e 1 := by
  unfold State.finishCancelled
  rw [h]
  rfl

/-- An evaluation leaves what a round end has posted, and with no entry listed all of it. -/
theorem State.settle_roundEnded {s t : State} {i : StringNo} {e : EndRec} {extra : Nat} (h : RoundEnded s t i e extra) :
    t.settle.mgmt = t.mgmt ∧ (s.requests = [] → t.settle = { t with evalDue := false }) :=
  ⟨(Grants.settle t).mgmt, fun none => by
    rw [State.settle_due _ h.evalDue]
    exact State.evaluate_of_nil (h.requests.trans none)⟩

/-- Settles O49. -/
theorem fillTimersExpire : Obligations.FillTimersExpire := by
  intro s f i quiet fill string w noted closing
  have hfilling : w.state = .filling → w.fillTimer = .running 0 → exec .fillTimerExpiry s = .next (s.fillExpired f).settle := by
    intro state due
    show execFillTimerExpiry s = _
    unfold execFillTimerExpiry
    rw [show s.water.round.state = .filling from state, fill]
    exact congrArg Host.Outcome.next (if_pos ((Timer.due_iff _).2 due))
  refine ⟨fun state due full => ?_, fun state due room => ?_, fun e state due ended => ?_, fun early => ⟨?_, ?_⟩⟩
  · rw [hfilling state due, State.fillExpired_eq, State.offerClose_waits (s := s.modRound (·.lostFill f)) full]
    exact congrArg Host.Outcome.next (State.settle_quiet quiet)
  · rw [hfilling state due, State.fillExpired_eq, State.offerClose_taken (s := s.modRound (·.lostFill f)) room]
    rfl
  · have hexec : exec .endingFillExpiry s = .next s.finishCancelled.settle :=
      congrArg Host.Outcome.next (if_pos ⟨state, (Timer.due_iff _).2 due⟩)
    have hend := State.endRound_ends (s := s.fillStopped) string e 1
    rw [← State.finishCancelled_eq ended] at hend
    obtain ⟨hmgmt, hnone⟩ := State.settle_roundEnded hend
    obtain ⟨r, hlast, hstring, hcls, hcause, -, hpart⟩ := hend.posted
    refine ⟨_, r, hexec, ?_, hstring, hcls, hcause, hpart, fun none => ?_⟩
    · rw [hmgmt]; exact hlast
    · rw [hnone none]
      refine ⟨congrArg Watering.round hend.water, congrArg StringRec.state hend.str, fun other => ?_, hend.holds⟩
      refine (congrArg StringRec.q hend.str).trans ?_
      exact if_neg fun h => other h.1
  · show execFillTimerExpiry s = _
    unfold execFillTimerExpiry
    split
    · exact congrArg Host.Outcome.next (if_neg fun due => early ((Timer.due_iff _).1 due))
    · rfl
  · exact congrArg Host.Outcome.next (if_neg fun due => early ((Timer.due_iff _).1 due.2))

end Sys2Proof.Machine
end

section
/-! PROOF. Valve reports: the deduction, the answer to the outstanding fill, and the next-fill step (R128, R134 to R142). -/

namespace Sys2Proof.Machine

open Sys2Proof

/-! ## Cells -/

/-- An update of one cell. -/
theorem State.cell_modCell (s : State) (i j : StringNo) (p q : Position) (f : Cell → Cell) :
    (s.modCell i p f).cell j q = if j = i ∧ q = p then f (s.cell i p) else s.cell j q := by
  unfold State.cell State.modCell
  by_cases hj : j = i
  · subst hj
    rw [s.str_modStr]
    by_cases hq : q = p
    · subst hq
      rw [if_pos ⟨rfl, rfl⟩]
      exact StringRec.cell_setCell _ q _
    · rw [if_neg fun h => hq h.2]
      exact StringRec.cell_setCell_ne _ p q _ hq
  · rw [if_neg fun h => hj h.1, s.str_modStr_ne i j _ hj]

/-- Of strings, a cell update changes no configuration. -/
theorem State.fittedPos_modCell (s : State) (i j : StringNo) (p q : Position) (f : Cell → Cell) :
    (s.modCell i p f).fittedPos j q = s.fittedPos j q := by
  unfold State.fittedPos State.modCell
  by_cases hj : j = i
  · subst hj; rw [s.str_modStr]; rfl
  · rw [s.str_modStr_ne i j _ hj]

/-- A cell after a deduction. -/
def Cell.deducted (c : Cell) (b : Binding) (volume : Nat) : Cell :=
  if c.binding = some b then { c with dispensed := satAdd Config.max16 c.dispensed volume } else c

theorem State.deduct_cell (s : State) (addr channel : Byte) (volume : Nat) (i : StringNo) (p : Position) :
    (s.deduct addr channel volume).cell i p = (s.cell i p).deducted ⟨addr, channel⟩ volume := by
  unfold State.deduct State.cell
  rw [State.str_mapStrings, StringRec.cell_mapCells]
  rfl

theorem Cell.deducted_dispensed (c : Cell) (b : Binding) (volume : Nat) :
    (c.deducted b volume).dispensed = if c.binding = some b then min (c.dispensed + volume) 65535 else c.dispensed := by
  unfold Cell.deducted
  split <;> rfl

theorem Cell.deducted_rest (c : Cell) (b : Binding) (volume : Nat) : { c.deducted b volume with dispensed := c.dispensed } = c := by
  unfold Cell.deducted
  split <;> rfl

theorem Cell.deducted_fields (c : Cell) (b : Binding) (volume : Nat) :
    (c.deducted b volume).level = c.level ∧ (c.deducted b volume).valveFault = c.valveFault := by
  unfold Cell.deducted
  split <;> exact ⟨rfl, rfl⟩

/-! ## What the steps of a round leave of the tank and the cells -/

/-- The tank figures and every cell are as they were. -/
structure TankSame (s t : State) : Prop where
  tank : t.water.tank = s.water.tank
  reserve : t.water.reserve = s.water.reserve
  cell : ∀ i p, t.cell i p = s.cell i p

theorem TankSame.refl (s : State) : TankSame s s := ⟨rfl, rfl, fun _ _ => rfl⟩

theorem TankSame.trans {s t u : State} (h : TankSame s t) (k : TankSame t u) : TankSame s u :=
  ⟨k.tank.trans h.tank, k.reserve.trans h.reserve, fun i p => (k.cell i p).trans (h.cell i p)⟩

theorem TankSame.modRound (s : State) (f : Round → Round) : TankSame s (s.modRound f) := ⟨rfl, rfl, fun _ _ => rfl⟩

theorem RoundEnded.tankSame {s t : State} {i : StringNo} {e : EndRec} {extra : Nat} (h : RoundEnded s t i e extra) : TankSame s t := by
  refine ⟨by rw [h.water], by rw [h.water], fun j p => ?_⟩
  unfold State.cell
  by_cases hj : j = i
  · subst hj; rw [h.str]; rfl
  · rw [h.others hj]

theorem TankSame.endRoundWith (s : State) (e : EndRec) (extra elapsed : Nat) : TankSame s (s.endRoundWith e extra elapsed) := by
  cases name : s.water.round.string with
  | some i => exact (State.endRoundWith_ends name e extra elapsed).tankSame
  | none =>
    have hnone : s.endRoundWith e extra elapsed = ((s.modRound fun r => r.close e extra).modRound fun _ => {}).trigger := by
      have hname : (s.modRound fun r => r.close e extra).water.round.string = none := name
      unfold State.endRoundWith
      dsimp only
      rw [hname]
    rw [hnone]
    exact ⟨rfl, rfl, fun _ _ => rfl⟩

theorem TankSame.openFill (s : State) (i : StringNo) (p : Position) (rest : List Position) : TankSame s (s.openFill i p rest) := by
  cases bind : (s.cell i p).binding with
  | none =>
    unfold State.openFill
    rw [bind]
    exact .refl s
  | some b =>
    cases room : s.offerRoom with
    | true => rw [State.openFill_taken bind room]; exact ⟨rfl, rfl, fun _ _ => rfl⟩
    | false => rw [State.openFill_waits bind room]; exact ⟨rfl, rfl, fun _ _ => rfl⟩

theorem TankSame.nextFill (s : State) : TankSame s s.nextFill := by
  unfold State.nextFill
  split
  · split
    · split
      · exact .endRoundWith s _ _ _
      · exact .openFill s _ _ _
    · exact .endRoundWith s _ _ _
  · exact .refl s

theorem TankSame.recheckOffer (s : State) : TankSame s s.recheckOffer := by
  unfold State.recheckOffer
  split
  · exact .refl s
  · split
    · exact TankSame.trans (t := s.withdrawOpen.modRound fun r => { r with fill := none }) ⟨rfl, rfl, fun _ _ => rfl⟩ (.endRoundWith _ _ _ _)
    · exact .refl s

theorem TankSame.finishCancelled (s : State) : TankSame s s.finishCancelled :=
  (TankSame.modRound s _).trans (.endRoundWith _ _ _ _)

/-! ## A report that answers the fill (R135 to R138) -/

/-- The cell of an answered fill. -/
def Cell.answered (c : Cell) (code : ValveCode) (fitted : Bool) : Cell :=
  match code with
  | .full => if fitted then { c with lastFill := some .full, level := .ok, levelQ := {} } else { c with lastFill := some .full }
  | .more => { c with lastFill := some .more }
  | .fault => { c with lastFill := some .fault, valveFault := true }

/-- The round of an answered fill. -/
def Round.answered (r : Round) (f : Fill) (code : ValveCode) (volume : Nat) : Round :=
  let r' := { r with fillTimer := .stopped, total := satAdd Config.max16 r.total volume, fill := none }
  match code with
  | .full => { r' with filled := r'.filled + 1 }
  | .more => r'.more f.pos
  | .fault => r'.fault f.pos .valveFault

/-- The state of an answered fill, before the next-fill step; the check for withdrawal may have shortened the list. -/
structure FillAnswered (s u : State) (i : StringNo) (f : Fill) (code : ValveCode) (volume : Nat) : Prop where
  water : u.water = { s.water with round := s.water.round.answered f code volume }
  cell : ∀ j p, u.cell j p = if j = i ∧ p = f.pos then (s.cell i f.pos).answered code (s.fittedPos i f.pos) else s.cell j p

theorem State.fullAction_fitted {s : State} {i : StringNo} {p : Position} (h : s.fittedPos i p = true) :
    (s.fullAction i p).water = s.water ∧
      ∀ j q, (s.fullAction i p).cell j q = (s.modCell i p fun c => { c with level := .ok, levelQ := {} }).cell j q := by
  have hcheck : ∀ u : State, (u.withdrawalCheck i).water = u.water ∧ ∀ j q, (u.withdrawalCheck i).cell j q = u.cell j q := fun u => by
    rw [State.withdrawalCheck_eq]
    exact ⟨rfl, fun _ _ => rfl⟩
  unfold State.fullAction
  rw [if_pos h]
  dsimp only
  split
  · exact hcheck _
  · exact ⟨rfl, fun _ _ => rfl⟩

theorem State.fullAction_unfitted {s : State} {i : StringNo} {p : Position} (h : s.fittedPos i p = false) : s.fullAction i p = s :=
  if_neg (by rw [h]; exact Bool.false_ne_true)

/-- The fill is no longer present, and its cell has its code. -/
def State.fillNoted (s : State) (i : StringNo) (f : Fill) (code : ValveCode) (volume : Nat) : State :=
  (s.modRound fun r => { r with fillTimer := .stopped, total := satAdd Config.max16 r.total volume, fill := none }).modCell i f.pos
    fun c => { c with lastFill := some code }

theorem State.fillNoted_cell (s : State) (i : StringNo) (f : Fill) (code : ValveCode) (volume : Nat) (j : StringNo) (p : Position) :
    (s.fillNoted i f code volume).cell j p =
      if j = i ∧ p = f.pos then { s.cell i f.pos with lastFill := some code } else s.cell j p := State.cell_modCell _ i j f.pos p _

theorem State.fillReported_answered {s : State} {i : StringNo} (string : s.water.round.string = some i) (f : Fill) (code : ValveCode)
    (volume : Nat) : ∃ u : State, s.fillReported f code volume = u.nextFill ∧ FillAnswered s u i f code volume := by
  have hstring : (s.modRound fun r => { r with fillTimer := .stopped, total := satAdd Config.max16 r.total volume, fill := none }).water.round.string
      = some i := string
  have hcell := s.fillNoted_cell i f code volume
  unfold State.fillReported
  dsimp only
  rw [hstring]
  cases code with
  | full =>
    refine ⟨_, rfl, ?_⟩
    have hfit : (s.fillNoted i f .full volume).fittedPos i f.pos = s.fittedPos i f.pos := State.fittedPos_modCell _ i i f.pos f.pos _
    set v := (s.fillNoted i f .full volume).modRound fun r => { r with filled := r.filled + 1 } with hv
    have hv' : v.fittedPos i f.pos = s.fittedPos i f.pos := hfit
    show FillAnswered s (v.fullAction i f.pos) i f .full volume
    cases fitted : s.fittedPos i f.pos with
    | true =>
      obtain ⟨hwater, hcells⟩ := State.fullAction_fitted (hv'.trans fitted)
      refine ⟨hwater, fun j p => ?_⟩
      rw [hcells, State.cell_modCell, show v.cell i f.pos = { s.cell i f.pos with lastFill := some .full } from (hcell i f.pos).trans (if_pos ⟨rfl, rfl⟩),
        show v.cell j p = _ from hcell j p, fitted]
      by_cases h : j = i ∧ p = f.pos
      · rw [if_pos h, if_pos h]; rfl
      · rw [if_neg h, if_neg h, if_neg h]
    | false =>
      rw [State.fullAction_unfitted (hv'.trans fitted)]
      refine ⟨rfl, fun j p => ?_⟩
      rw [fitted]
      exact hcell j p
  | more => exact ⟨_, rfl, rfl, hcell⟩
  | fault =>
    refine ⟨_, rfl, rfl, fun j p => ?_⟩
    show ((s.fillNoted i f .fault volume).modCell i f.pos fun c => { c with valveFault := true }).cell j p = _
    rw [State.cell_modCell, (hcell i f.pos).trans (if_pos ⟨rfl, rfl⟩), hcell j p]
    by_cases h : j = i ∧ p = f.pos
    · rw [if_pos h, if_pos h]; rfl
    · rw [if_neg h, if_neg h, if_neg h]

theorem Cell.answered_fields (c : Cell) (code : ValveCode) (fitted : Bool) :
    (c.answered code fitted).lastFill = some code ∧ (c.answered code fitted).dispensed = c.dispensed ∧
      (code ≠ .full → (c.answered code fitted).level = c.level) ∧
      ((c.answered code fitted).valveFault = true ↔ code = .fault ∨ c.valveFault = true) := by
  cases code with
  | full => cases fitted <;> simp [Cell.answered]
  | more => simp [Cell.answered]
  | fault => simp [Cell.answered]

theorem Round.answered_fields (r : Round) (f : Fill) (code : ValveCode) (volume : Nat) :
    (r.answered f code volume).state = r.state ∧ (r.answered f code volume).fill = none ∧
      (r.answered f code volume).fillTimer = .stopped ∧ (r.answered f code volume).total = min (r.total + volume) 65535 ∧
      (r.answered f code volume).filled = r.filled + (if code = .full then 1 else 0) ∧
      (r.answered f code volume).fillList = r.fillList ++ (if code = .more ∧ r.attempts[f.pos] < 3 then [f.pos] else []) ∧
      (r.answered f code volume).faulted = r.faulted ++
        (if code = .fault then [⟨f.pos, .valveFault⟩]
         else if code = .more ∧ 3 ≤ r.attempts[f.pos] then [⟨f.pos, .notFull⟩] else []) := by
  cases code with
  | full => simp [Round.answered, satAdd, Config.max16]
  | fault => simp [Round.answered, Round.fault, satAdd, Config.max16]
  | more =>
    have hnil : r.faulted = r.faulted ++ [] := (List.append_nil _).symm
    have full : ValveCode.more ≠ .full := nofun
    have fault : ValveCode.more ≠ .fault := nofun
    by_cases third : r.attempts[f.pos] < 3
    · have heq : r.answered f .more volume = { r with
          fillTimer := .stopped, total := satAdd Config.max16 r.total volume, fill := none, fillList := r.fillList ++ [f.pos] } :=
        if_pos third
      rw [heq, if_neg full, if_pos ⟨rfl, third⟩, if_neg fault, if_neg fun h => absurd third h.2.not_gt]
      exact ⟨rfl, rfl, rfl, rfl, rfl, rfl, hnil⟩
    · have heq : r.answered f .more volume = { r with
          fillTimer := .stopped, total := satAdd Config.max16 r.total volume, fill := none
          faulted := r.faulted ++ [⟨f.pos, .notFull⟩] } := if_neg third
      rw [heq, if_neg full, if_neg fun h => third h.2, if_neg fault, if_pos ⟨rfl, Nat.le_of_not_lt third⟩]
      exact ⟨rfl, rfl, rfl, rfl, rfl, (List.append_nil _).symm, rfl⟩

/-! ## The report (R128, R135, R140, R142) -/

theorem Round.answers_eq_none {r : Round} {addr channel : Byte}
    (h : ∀ f, r.fill = some f → f.phase = .outstanding ∧ ¬(f.addr = addr ∧ f.channel = channel)) : r.answers addr channel = none := by
  unfold Round.answers
  split
  · rfl
  · exact if_neg fun k => (h _ ‹_›).2 k.2

theorem State.recheckOffer_eq {s : State} (h : ∀ f, s.water.round.fill = some f → f.phase = .offered → (f.volume : Int) ≤ s.water.available) :
    s.recheckOffer = s := by
  unfold State.recheckOffer
  split
  · rfl
  · exact if_neg fun k => (h _ ‹_› k.1).not_gt k.2

/-- A report is a deduction, and then a step that leaves the tank and the dispensed totals. -/
theorem State.valveReported_tank {s : State} {channel : Byte} (valid : channel.toNat ≤ 7) (src : Byte) (code : ValveCode) (ml : Nat) :
    (s.valveReported src channel code ml).water.tank = s.water.tank - ml ∧
      (s.valveReported src channel code ml).water.reserve = s.water.reserve ∧
      ∀ i p, ((s.valveReported src channel code ml).cell i p).dispensed = ((s.cell i p).deducted ⟨src, channel⟩ ml).dispensed := by
  have hsame : ∀ t : State, TankSame (s.deduct src channel ml) t →
      t.water.tank = s.water.tank - ml ∧ t.water.reserve = s.water.reserve ∧
        ∀ i p, (t.cell i p).dispensed = ((s.cell i p).deducted ⟨src, channel⟩ ml).dispensed := fun t h =>
    ⟨h.tank, h.reserve, fun i p => by rw [h.cell, State.deduct_cell]⟩
  unfold State.valveReported
  rw [if_neg valid.not_gt]
  dsimp only
  split
  · rename_i f _ _
    cases string : (s.deduct src channel ml).water.round.string with
    | none =>
      have hstring : ((s.deduct src channel ml).modRound fun r =>
          { r with fillTimer := .stopped, total := satAdd Config.max16 r.total ml, fill := none }).water.round.string = none := string
      unfold State.fillReported
      dsimp only
      rw [hstring]
      exact hsame _ ((TankSame.modRound _ _).trans (.nextFill _))
    | some i =>
      obtain ⟨u, hu, hanswered⟩ := State.fillReported_answered string f code ml
      rw [hu]
      have hnext := TankSame.nextFill u
      refine ⟨by rw [hnext.tank, hanswered.water]; rfl, by rw [hnext.reserve, hanswered.water]; rfl, fun j p => ?_⟩
      rw [hnext.cell, hanswered.cell, ← State.deduct_cell]
      split
      · rename_i h
        rw [(Cell.answered_fields _ _ _).2.1, h.1, h.2]
      · rfl
  · exact hsame _ (.finishCancelled _)
  · split
    · exact hsame _ (.refl _)
    · exact hsame _ (.recheckOffer _)

theorem State.valveReported_filling {s : State} {channel : Byte} {f : Fill} (valid : channel.toNat ≤ 7)
    (state : s.water.round.state = .filling) (fill : s.water.round.fill = some f) (phase : f.phase = .outstanding)
    (hc : f.channel = channel) (code : ValveCode) (ml : Nat) :
    s.valveReported f.addr channel code ml = (s.deduct f.addr channel ml).fillReported f code ml := by
  have hanswers : (s.deduct f.addr channel ml).water.round.answers f.addr channel = some f := by
    show s.water.round.answers f.addr channel = some f
    unfold Round.answers
    rw [fill]
    exact if_pos ⟨phase, rfl, hc⟩
  have hstate : (s.deduct f.addr channel ml).water.round.state = .filling := state
  unfold State.valveReported
  rw [if_neg valid.not_gt]
  dsimp only
  rw [hstate, hanswers]

theorem State.valveReported_late {s : State} {src channel : Byte} (valid : channel.toNat ≤ 7)
    (h : ∀ f, s.water.round.fill = some f → f.phase = .outstanding ∧ ¬(f.addr = src ∧ f.channel = channel)) (code : ValveCode) (ml : Nat) :
    s.valveReported src channel code ml = s.deduct src channel ml := by
  have hanswers : (s.deduct src channel ml).water.round.answers src channel = none := Round.answers_eq_none (r := s.water.round) h
  have hrecheck : (s.deduct src channel ml).recheckOffer = s.deduct src channel ml :=
    State.recheckOffer_eq fun f hf offered => by
      have hout := (h f hf).1
      rw [offered] at hout
      cases hout
  unfold State.valveReported
  rw [if_neg valid.not_gt]
  dsimp only
  rw [hanswers, hrecheck]
  split
  · rename_i heq; cases heq
  · rename_i heq; cases heq
  · exact ite_self _

/-- Settles O48. -/
theorem valveReportTaken : Obligations.ValveReportTaken := by
  intro s src channel code ml t
  refine ⟨fun h => if_pos h, fun valid => ?_⟩
  obtain ⟨htank, hreserve, hdispensed⟩ := State.valveReported_tank (s := s) valid src code ml
  refine ⟨htank, hreserve, fun i p => (hdispensed i p).trans (Cell.deducted_dispensed _ _ _), fun late => ?_, ?_⟩
  · have ht : t = s.deduct src channel ml := State.valveReported_late valid late code ml
    rw [ht]
    exact ⟨rfl, rfl, rfl, rfl, fun i p => by rw [State.deduct_cell]; exact Cell.deducted_rest _ _ _⟩
  · intro f i state string fill phase haddr hchannel
    subst haddr
    have hfilling := State.valveReported_filling valid state fill phase hchannel code ml
    obtain ⟨u, hu, hanswered⟩ := State.fillReported_answered (s := s.deduct f.addr channel ml) string f code ml
    have ht : t = u.nextFill := hfilling.trans hu
    have hcell : t.cell i f.pos = ((s.cell i f.pos).deducted ⟨f.addr, channel⟩ ml).answered code
        ((s.deduct f.addr channel ml).fittedPos i f.pos) := by
      rw [ht, (TankSame.nextFill u).cell, hanswered.cell, if_pos ⟨rfl, rfl⟩, State.deduct_cell]
    obtain ⟨hlast, -, hlevel, hfault⟩ := ((s.cell i f.pos).deducted ⟨f.addr, channel⟩ ml).answered_fields code
      ((s.deduct f.addr channel ml).fittedPos i f.pos)
    obtain ⟨hdlevel, hdfault⟩ := (s.cell i f.pos).deducted_fields ⟨f.addr, channel⟩ ml
    obtain ⟨rstate, rfill, rtimer, rtotal, rfilled, rlist, rfaulted⟩ := s.water.round.answered_fields f code ml
    have hround : u.water.round = s.water.round.answered f code ml := congrArg Watering.round hanswered.water
    rw [hcell]
    refine ⟨hlast, fun full fitted => ?_, fun other => (hlevel other).trans hdlevel, ?_, u, ht, ?_⟩
    · have hfit : (s.deduct f.addr channel ml).fittedPos i f.pos = true := by
        unfold State.fittedPos State.deduct
        rw [State.str_mapStrings]
        exact decide_eq_true fitted
      rw [full, hfit]
      exact ⟨rfl, rfl⟩
    · rw [hfault, hdfault]
    · rw [hround]
      exact ⟨rstate.trans state, rfill, rtimer, rtotal, rfilled, rlist, rfaulted⟩

end Sys2Proof.Machine
end

section
/-! PROOF. The two management requests that reach a round: JOB_CANCEL (R71, R100, R141) and SET_TANK (R127, R134), with
SET_CEILING (R72). -/

namespace Sys2Proof.Machine

open Sys2Proof

/-! ## SET_TANK (R127, R134) -/

/-- The tank figures take these values. -/
def State.tankSet (s : State) (estimate reserve : Nat) : State :=
  { s with water := { s.water with tank := estimate, reserve := reserve } }

theorem State.answerSetTank_eq (s : State) {estimate reserve : Nat} (he : estimate < 2 ^ 16) (hr : reserve < 2 ^ 16) :
    s.answerSetTank (beBytes 2 estimate ++ beBytes 2 reserve) =
      ({ code := .ok }, (s.tankSet estimate reserve).recheckOffer.trigger) := by
  have hestimate : natField (beBytes 2 estimate ++ beBytes 2 reserve) 0 2 = estimate := natField_beBytes_head (by omega) _
  have hreserve : natField (beBytes 2 estimate ++ beBytes 2 reserve) 2 2 = reserve :=
    (natField_beBytes_skip le_rfl _ _ _).trans (natField_beBytes_self (by omega))
  unfold State.answerSetTank
  rw [hestimate, hreserve]
  rfl

theorem requestKind_setTank (estimate reserve : Nat) :
    requestKind ([0x07] ++ beBytes 2 estimate ++ beBytes 2 reserve) = .setTank := by
  rw [beBytes_two, beBytes_two]
  rfl

/-- An offered fill that the figures no longer cover is withdrawn, and the round ends. -/
theorem State.recheckOffer_ends {s : State} {f : Fill} {i : StringNo} (fill : s.water.round.fill = some f) (offered : f.phase = .offered)
    (dry : s.water.available < f.volume) (string : s.water.round.string = some i) :
    RoundEnded (s.withdrawOpen.modRound fun r => { r with fill := none }) s.recheckOffer i ⟨.abnormal, .tank⟩ 1 := by
  have heq : s.recheckOffer = (s.withdrawOpen.modRound fun r => { r with fill := none }).endRound ⟨.abnormal, .tank⟩ 1 := by
    unfold State.recheckOffer
    rw [fill]
    exact if_pos ⟨offered, dry⟩
  rw [heq]
  exact State.endRound_ends (s := s.withdrawOpen.modRound fun r => { r with fill := none }) string _ 1

/-- Settles O27. -/
theorem ceilingAndTankSet : Obligations.CeilingAndTankSet := by
  refine ⟨fun s src c rest hs => hs.exec_setCeiling, fun s src rest estimate reserve he hr hs => ?_⟩
  intro figures
  set u := s.withInput rest with hu
  have hanswer := u.answerSetTank_eq he hr
  have hexec : exec .setTank s = .next ((u.tankSet estimate reserve).recheckOffer.trigger.settle.sendReply src 0x07 { code := .ok }) :=
    congrArg Host.Outcome.next (hs.answered (answer := State.answerSetTank) (requestKind_setTank estimate reserve) hanswer)
  have hsame := TankSame.recheckOffer (u.tankSet estimate reserve)
  refine ⟨⟨_, hexec, ?_, ?_⟩, fun covered => ?_, fun f i fill offered dry string => ?_⟩
  · have hwater := (Grants.settle (u.tankSet estimate reserve).recheckOffer.trigger).water
    rw [hwater]
    exact hsame.tank
  · have hwater := (Grants.settle (u.tankSet estimate reserve).recheckOffer.trigger).water
    rw [hwater]
    exact hsame.reserve
  · have hquiet : (u.tankSet estimate reserve).recheckOffer = u.tankSet estimate reserve :=
      State.recheckOffer_eq (s := u.tankSet estimate reserve) covered
    rw [hexec, hquiet, State.settle_trigger (s := u.tankSet estimate reserve) hs.settled]
    rfl
  · have hend := State.recheckOffer_ends (s := u.tankSet estimate reserve) fill offered dry string
    obtain ⟨r, hlast, hstring, hcls, hcause, -, hpart⟩ := hend.posted
    have hmgmt : (u.tankSet estimate reserve).recheckOffer.trigger.settle.mgmt = (u.tankSet estimate reserve).recheckOffer.mgmt :=
      (Grants.settle (u.tankSet estimate reserve).recheckOffer.trigger).mgmt
    refine ⟨_, r, hexec, ?_, hstring, hcls, hcause, hpart⟩
    rw [hmgmt]
    exact hlast

/-! ## JOB_CANCEL (R71) -/

theorem State.lists_iff (s : State) (i : StringNo) (k : JobKind) : s.lists i k = true ↔ ∃ e ∈ s.requests, e.string = i ∧ e.kind = k := by
  unfold State.lists
  simp only [List.any_eq_true, Entry.isFor_iff]

theorem State.cancellable_iff (s : State) (i : StringNo) (k : JobKind) : s.cancellable i k = true ↔
    (k = .equalise ∧ (s.str i).state ∈ [StringState.baseline, .transferOut, .equalising, .held]) ∨
      (k = .watering ∧ (s.str i).state = .watering ∧ s.water.round.state = .filling) := by
  unfold State.cancellable
  cases k with
  | equalise => cases (s.str i).state <;> simp
  | watering => simp

theorem State.answerJobCancel_badRange (s : State) {n k : Byte} (h : 8 ≤ n.toNat ∨ 1 < k.toNat) :
    s.answerJobCancel [n, k] = s.refuse .badRange := by
  unfold State.answerJobCancel
  rw [jobKindArg_one]
  split
  · rename_i i kind hstring hkind
    obtain h | h := h
    · rw [stringArg_eq_none h] at hstring
      cases hstring
    · rw [if_neg (by omega), if_neg (by omega)] at hkind
      cases hkind
  · rfl

section
variable (s : State) {n k : Byte} {i : StringNo} {kind : JobKind} (hn : stringArg [n, k] = some i) (hk : jobKindArg [n, k] 1 = some kind)
include hn hk

theorem State.answerJobCancel_none (h : ¬(s.lists i kind = true ∨ s.cancellable i kind = true)) :
    s.answerJobCancel [n, k] = s.refuse .badState := by
  unfold State.answerJobCancel
  rw [hn, hk]
  exact if_neg h

theorem State.answerJobCancel_listed (h : s.lists i kind = true) (idle : s.cancellable i kind = false) :
    s.answerJobCancel [n, k] = ({ code := .ok }, s.dropEntry i kind) := by
  unfold State.answerJobCancel
  rw [hn, hk]
  refine (if_pos (.inl h)).trans ?_
  rw [idle]
  rfl

theorem State.answerJobCancel_running (h : s.cancellable i kind = true) :
    s.answerJobCancel [n, k] = ({ code := .ok }, (s.dropEntry i kind).cancelWork i kind) := by
  unfold State.answerJobCancel
  rw [hn, hk]
  refine (if_pos (.inr h)).trans ?_
  rw [h]
  rfl

end

theorem State.endStringJob_of_bay {s : State} {b : BayNo} {i : StringNo} (h : (s.str i).bay = some b) (cause : Cause) :
    s.endStringJob i cause = s.endJob b ⟨.abnormal, cause⟩ := by
  unfold State.endStringJob
  rw [h]

/-! ### Rounds that are cancelled (R141) -/

theorem State.cancelRound_none {s : State} (h : s.water.round.fill = none) : s.cancelRound = s.endRound ⟨.abnormal, .cancelled⟩ 0 := by
  unfold State.cancelRound
  rw [h]

theorem State.cancelRound_offered {s : State} {f : Fill} (h : s.water.round.fill = some f) (offered : f.phase = .offered) :
    s.cancelRound = (s.withdrawOpen.modRound fun r => { r with fill := none }).endRound ⟨.abnormal, .cancelled⟩ 1 := by
  unfold State.cancelRound
  rw [h]
  simp only [offered]

/-- The round as an ENDING one. -/
def State.roundEnding (s : State) : State := s.modRound fun r => { r with state := .ending, ended := some ⟨.abnormal, .cancelled⟩ }

theorem State.cancelRound_outstanding {s : State} {f : Fill} (h : s.water.round.fill = some f) (outstanding : f.phase = .outstanding) :
    s.cancelRound = s.roundEnding.offerClose f.addr f.channel := by
  unfold State.cancelRound
  rw [h]
  simp only [outstanding]
  rfl

theorem State.nextFill_of_notFilling {s : State} (h : s.water.round.state ≠ .filling) : s.nextFill = s := if_neg fun k => h k.1

theorem State.settledQ_of_ne {s : State} {e : EndRec} (i : StringNo) (h : e.cause ≠ .allFull) :
    s.settledQ i e = reduceQ (s.str i).q s.water.round.total (s.str i).cfg.cellCount (s.profile i).gassing := by
  unfold State.settledQ
  exact if_neg fun k => h k.1

/-- What a round end says in the words of JOB_CANCEL. -/
theorem RoundEnded.cancelled {s v : State} {i : StringNo} {extra : Nat} (h : RoundEnded s v i ⟨.abnormal, .cancelled⟩ extra) :
    (v.str i).q = reduceQ (s.str i).q s.water.round.total (s.str i).cfg.cellCount (s.profile i).gassing :=
  (congrArg StringRec.q h.str).trans (State.settledQ_of_ne (s := s) (e := ⟨.abnormal, .cancelled⟩) i nofun)

/-- Settles O26. -/
theorem jobCancelRemovesAndCancels : Obligations.JobCancelRemovesAndCancels := by
  intro s src n k rest hs u w
  refine ⟨fun h => congrArg Host.Outcome.next (hs.refused rfl (u.answerJobCancel_badRange h)), fun i kind hn hk => ?_⟩
  intro listed without running
  have hstring := stringArg_eq_some hn [k]
  have hkind := jobKindArg_eq_some hk n []
  have hlisted : u.lists i kind = true ↔ listed := u.lists_iff i kind
  have hrunning : u.cancellable i kind = true ↔ running := u.cancellable_iff i kind
  have hexec : ∀ v, running → (u.dropEntry i kind).cancelWork i kind = v →
      exec .jobCancel s = .next (v.settle.sendReply src 0x05 { code := .ok }) := fun v hr hv =>
    congrArg Host.Outcome.next (hs.answered (answer := State.answerJobCancel) rfl
      ((u.answerJobCancel_running hstring hkind (hrunning.2 hr)).trans (by rw [hv])))
  have hquiet : (u.dropEntry i kind).evalDue = false := hs.settled
  refine ⟨fun hl hr => ?_, fun hl hr => ?_, fun b hke hw => ?_, fun b st hke mem hw => ?_, fun missed hkw hr string hfill => ?_,
    fun f hkw hr fill outstanding => ?_⟩
  · exact congrArg Host.Outcome.next (hs.refused rfl (u.answerJobCancel_none hstring hkind
      (not_or.2 ⟨fun h => hl (hlisted.1 h), fun h => hr (hrunning.1 h)⟩)))
  · have hidle : u.cancellable i kind = false := by rw [← Bool.not_eq_true, hrunning]; exact hr
    exact congrArg Host.Outcome.next (hs.takeRequest_eq (k := .jobCancel) rfl
      (u.answerJobCancel_listed hstring hkind (hlisted.2 hl) hidle) rfl)
  · subst hke
    have hcancel : (u.dropEntry i .equalise).cancelWork i .equalise =
        (u.dropEntry i .equalise).endInBaseline b i ⟨.abnormal, .cancelled⟩ (u.elapsed (u.str i).startMinute) :=
      (State.endStringJob_of_bay (s := u.dropEntry i .equalise) hw.named .cancelled).trans
        (State.endJob_baseline (s := u.dropEntry i .equalise) hw.names hw.state _)
    have hend := (u.dropEntry i .equalise).endInBaseline_ends b i ⟨.abnormal, .cancelled⟩ (u.elapsed (u.str i).startMinute)
    have hrun := hexec _ (.inl ⟨rfl, by rw [hw.state]; simp⟩) hcancel
    generalize (u.dropEntry i .equalise).endInBaseline b i ⟨.abnormal, .cancelled⟩ (u.elapsed (u.str i).startMinute) = v at hend hrun
    rw [State.settle_due v hend.evalDue] at hrun
    have h := hend.endsInBaseline
    have hplain : v.str i = { s.str i with bay := none, state := .float } := hend.str_plain nofun (.inl rfl)
    refine ⟨{ v with evalDue := false }, hrun, ⟨h.float, h.unbound, h.free, h.switchHold, h.chargerHold, h.kept, h.counted, h.posted⟩,
      hend.requests, (congrArg StringRec.retryHold hplain).trans rfl, (congrArg StringRec.age hplain).trans rfl, hend.others⟩
  · subst hke
    have hcancel : (u.dropEntry i .equalise).cancelWork i .equalise =
        (u.dropEntry i .equalise).endToTransferBack b i ⟨.abnormal, .cancelled⟩ :=
      (State.endStringJob_of_bay (s := u.dropEntry i .equalise) hw.named .cancelled).trans
        (State.endJob_back (s := u.dropEntry i .equalise) hw.names hw.state mem _)
    have hend := (u.dropEntry i .equalise).endToTransferBack_ends b i ⟨.abnormal, .cancelled⟩
    have hmem : (s.str i).state ∈ [StringState.baseline, .transferOut, .equalising, .held] := by
      rw [hw.state]
      exact List.mem_cons_of_mem _ mem
    have hrun := hexec _ (.inl ⟨rfl, hmem⟩) hcancel
    generalize (u.dropEntry i .equalise).endToTransferBack b i ⟨.abnormal, .cancelled⟩ = v at hend hrun
    obtain ⟨hholds, hmgmt, hrequests, -, -, hdue⟩ := hend.fields
    rw [State.settle_quiet (hdue.trans hquiet)] at hrun
    refine ⟨v, hrun, congrArg StringRec.state hend.str, congrArg Bay.ended hend.bay, (congrArg Bay.state hend.bay).trans hw.busy,
      hrequests, (congrArg StringRec.retryHold hend.str).trans rfl, hholds, (congrArg Management.results hmgmt).trans rfl⟩
  · subst hkw
    have hend : ∃ (z : State) (extra : Nat), RoundEnded z ((u.dropEntry i .watering).cancelWork i .watering) i ⟨.abnormal, .cancelled⟩ extra ∧
        missed = w.fillList.length + extra ∧ (w.fill ≠ none → z = (u.dropEntry i .watering).withdrawOpen.modRound fun r => { r with fill := none }) ∧
          (w.fill = none → z = u.dropEntry i .watering) := by
      obtain ⟨fill, hm⟩ | ⟨f, fill, offered, hm⟩ := hfill
      · have hcancel : (u.dropEntry i .watering).cancelWork i .watering = (u.dropEntry i .watering).endRound ⟨.abnormal, .cancelled⟩ 0 :=
          State.cancelRound_none (s := u.dropEntry i .watering) fill
        refine ⟨_, 0, ?_, hm, fun h => absurd fill h, fun _ => rfl⟩
        rw [hcancel]
        exact State.endRound_ends (s := u.dropEntry i .watering) string _ 0
      · have hcancel : (u.dropEntry i .watering).cancelWork i .watering =
            ((u.dropEntry i .watering).withdrawOpen.modRound fun r => { r with fill := none }).endRound ⟨.abnormal, .cancelled⟩ 1 :=
          State.cancelRound_offered (s := u.dropEntry i .watering) fill offered
        refine ⟨_, 1, ?_, hm, fun _ => rfl, fun h => by rw [show w.fill = some f from fill] at h; cases h⟩
        rw [hcancel]
        exact State.endRound_ends (s := (u.dropEntry i .watering).withdrawOpen.modRound fun r => { r with fill := none }) string _ 1
    obtain ⟨z, extra, hend, hm, hsome, hnone⟩ := hend
    have hrun := hexec _ hr rfl
    generalize (u.dropEntry i .watering).cancelWork i .watering = v at hend hrun
    rw [State.settle_due v hend.evalDue] at hrun
    obtain ⟨r, hlast, hrstring, hcls, hcause, hstart, hpart⟩ := hend.posted
    subst hm
    by_cases fill : w.fill = none
    · have hz := hnone fill
      subst hz
      exact ⟨{ v with evalDue := false }, r, hrun, hend.water, congrArg StringRec.state hend.str, hend.requests, hend.holds, hend.bays,
        fun h => absurd fill h, fun _ => hend.chain.2, hend.cancelled, hlast, hrstring, hcls, hcause, hstart, hpart⟩
    · have hz := hsome fill
      subst hz
      exact ⟨{ v with evalDue := false }, r, hrun, hend.water, congrArg StringRec.state hend.str, hend.requests, hend.holds, hend.bays,
        fun _ => hend.chain.2, fun h => absurd h fill, hend.cancelled, hlast, hrstring, hcls, hcause, hstart, hpart⟩
  · subst hkw
    have hcancel : (u.dropEntry i .watering).cancelWork i .watering = (u.dropEntry i .watering).roundEnding.offerClose f.addr f.channel :=
      State.cancelRound_outstanding (s := u.dropEntry i .watering) fill outstanding
    have hrun := hexec _ hr hcancel
    have ending : ∀ x : State, x.water.round.state = .ending → x.nextFill = x := fun x hx => State.nextFill_of_notFilling (by rw [hx]; decide)
    generalize hv : (u.dropEntry i .watering).roundEnding.offerClose f.addr f.channel = v at hrun
    have hsettled : ∀ x : State, x.evalDue = false → Host.Outcome.next (x.settle.sendReply src 0x05 { code := .ok }) =
        (Host.Outcome.next (x.sendReply src 0x05 { code := .ok }) : Host.Outcome State Fault Refusal) :=
      fun x h => by rw [State.settle_quiet h]
    cases room : s.offerRoom with
    | true =>
      rw [State.offerClose_taken (s := (u.dropEntry i .watering).roundEnding) room, ending _ rfl] at hv
      subst hv
      exact ⟨_, hrun.trans (hsettled _ hquiet), rfl, fill, rfl, rfl, rfl, rfl, rfl, rfl, rfl, fun _ => ⟨rfl, rfl⟩, nofun⟩
    | false =>
      rw [State.offerClose_waits (s := (u.dropEntry i .watering).roundEnding) room] at hv
      subst hv
      exact ⟨_, hrun.trans (hsettled _ hquiet), rfl, fill, rfl, rfl, rfl, rfl, rfl, rfl, rfl, nofun, fun _ => ⟨rfl, rfl⟩⟩

end Sys2Proof.Machine
end

section
/-! PROOF. Sweeps and waiting offers: the monitors a sweep asks, the SWEEP request, the sweep's time-out, and the taking of the oldest
offer (R11, R41 to R43, R88). -/

namespace Sys2Proof.Machine

open Sys2Proof

/-! ## The monitors a sweep asks (R41) -/

/-- A sweep that has gone on asking: the same monitors are owed, the same timer runs, and what was asked stays asked. -/
structure Sweep.Asks (x y : Sweep) : Prop where
  idle : x = .idle → y = .idle
  timer : ∀ l t, x = .sweeping l t → ∃ l', y = .sweeping l' t
  owed : y.owed.map (·.addr) = x.owed.map (·.addr)
  asked : ∀ a, (∀ o ∈ x.owed, o.addr = a → o.asked = true) → ∀ o ∈ y.owed, o.addr = a → o.asked = true

theorem Sweep.Asks.refl (x : Sweep) : x.Asks x := ⟨id, fun l _ h => ⟨l, h⟩, rfl, fun _ h => h⟩

theorem Sweep.Asks.trans {x y z : Sweep} (h : x.Asks y) (k : y.Asks z) : x.Asks z := by
  refine ⟨fun e => k.idle (h.idle e), fun l t e => ?_, k.owed.trans h.owed, fun a e => k.asked a (h.asked a e)⟩
  obtain ⟨l', hy⟩ := h.timer l t e
  exact k.timer l' t hy

theorem mem_markAsked {a : Byte} {l : List Owed} {o : Owed} (h : o ∈ markAsked a l) :
    ∃ x ∈ l, o.addr = x.addr ∧ (x.addr = a → o.asked = true) ∧ (x.asked = true → o.asked = true) := by
  obtain ⟨x, hx, rfl⟩ := List.mem_map.1 h
  refine ⟨x, hx, ?_⟩
  by_cases ha : x.addr = a
  · rw [if_pos ha]; exact ⟨rfl, fun _ => rfl, fun _ => rfl⟩
  · rw [if_neg ha]; exact ⟨rfl, fun e => absurd e ha, id⟩

theorem markAsked_addr (a : Byte) (l : List Owed) : (markAsked a l).map (·.addr) = l.map (·.addr) := by
  unfold markAsked
  rw [List.map_map]
  refine List.map_congr_left fun o _ => ?_
  show (if o.addr = a then { o with asked := true } else o).addr = o.addr
  split <;> rfl

theorem Sweep.owed_mapOwed (f : List Owed → List Owed) (hf : f [] = []) (x : Sweep) : (x.mapOwed f).owed = f x.owed := by
  cases x with
  | idle => exact hf.symm
  | sweeping l t => rfl

theorem Sweep.Asks.markAsked (a : Byte) (x : Sweep) : x.Asks (x.mapOwed (markAsked a)) := by
  refine ⟨fun e => by rw [e]; rfl, fun l t e => ⟨_, by rw [e]; rfl⟩, ?_, fun c hc o ho hoc => ?_⟩
  · rw [Sweep.owed_mapOwed _ rfl, markAsked_addr]
  · rw [Sweep.owed_mapOwed _ rfl] at ho
    obtain ⟨y, hy, haddr, -, hasked⟩ := mem_markAsked ho
    exact hasked (hc y hy (haddr.symm.trans hoc))

/-- What asking writes: the Frame Path, and of the string its sweep. -/
structure AskStep (i : StringNo) (s t : State) : Prop where
  eq : t = { s with fp := t.fp, strings := t.strings }
  others : ∀ j, j ≠ i → t.str j = s.str j
  str : t.str i = { s.str i with sweep := (t.str i).sweep }
  asks : (s.str i).sweep.Asks (t.str i).sweep

theorem AskStep.refl (i : StringNo) (s : State) : AskStep i s s := ⟨rfl, fun _ _ => rfl, rfl, .refl _⟩

theorem AskStep.setFp (i : StringNo) (s : State) (fp : FramePath) : AskStep i s { s with fp := fp } := ⟨rfl, fun _ _ => rfl, rfl, .refl _⟩

theorem AskStep.trans {i : StringNo} {s t u : State} (h : AskStep i s t) (k : AskStep i t u) : AskStep i s u := by
  refine ⟨?_, fun j hj => (k.others j hj).trans (h.others j hj), ?_, h.asks.trans k.asks⟩
  · rw [k.eq, h.eq]
  · rw [k.str, h.str]

theorem AskStep.noteAsked (i : StringNo) (s : State) (a : Byte) : AskStep i s (s.noteAsked i a) := by
  have hstr : (s.noteAsked i a).str i = { s.str i with sweep := (s.str i).sweep.mapOwed (markAsked a) } := s.str_modStr i _
  refine ⟨rfl, fun j hj => s.str_modStr_ne i j _ hj, by rw [hstr], ?_⟩
  rw [hstr]
  exact .markAsked a _

theorem AskStep.sweepAsk (i : StringNo) : ∀ (n : Nat) (s : State), AskStep i s (s.sweepAsk n i)
  | 0, s => .refl i s
  | n + 1, s => by
    unfold State.sweepAsk
    split
    · exact .refl i s
    · split
      · exact ((AskStep.setFp i s _).trans (.noteAsked i _ _)).trans (.sweepAsk i n _)
      · exact .setFp i s _

theorem AskStep.evalDue {i : StringNo} {s t : State} (h : AskStep i s t) : t.evalDue = s.evalDue := by rw [h.eq]

/-! ## The SWEEP request (R41) -/

/-- A completed sweep leaves the sweep field and calls for no evaluation. -/
theorem State.sweepComplete_sweep (s : State) (i : StringNo) :
    ((s.sweepComplete i).str i).sweep = (s.str i).sweep ∧ (s.sweepComplete i).evalDue = s.evalDue := by
  refine ⟨?_, by rw [(SweepStep.sweepComplete i s).eq]⟩
  by_cases state : (s.str i).state = .baseline
  · cases bay : (s.str i).bay with
    | none => rw [State.sweepComplete_ignored fun _ => bay]
    | some b =>
      have hstep : BayStep b (s.baselineTaken b i) (s.sweepComplete i) := by
        rw [State.sweepComplete_baseline state bay]; exact .beginStep b _ _ _
      rw [hstep.str, s.baselineTaken_str]
  · rw [State.sweepComplete_ignored fun h => absurd h state]

/-- The state in which a started sweep asks its monitors. -/
def State.sweepOwing (s : State) (i : StringNo) : State :=
  s.modStr i fun r => { r with sweep := .sweeping (s.monitorsOf i) (.running s.site.sweepTimeout) }

theorem State.startSweep_owing {s : State} {i : StringNo} (h : s.monitorsOf i ≠ []) : s.startSweep i = (s.sweepOwing i).sweepNext i := by
  unfold State.startSweep
  split
  · exact absurd ‹_› h
  · rfl

theorem State.startSweep_none {s : State} {i : StringNo} (h : s.monitorsOf i = []) : s.startSweep i = s.sweepComplete i := by
  unfold State.startSweep
  rw [h]

theorem State.monitorsOf_addr (s : State) (i : StringNo) : (s.monitorsOf i).map (·.addr) =
    (s.sourceMap.filter fun e => e.role = .cellMonitor && e.string = some i).map (·.addr) := by
  unfold State.monitorsOf
  rw [List.map_map]
  rfl

theorem State.answerSweepRequest_eq (s : State) {n : Byte} {i : StringNo} (hn : n.toNat = i.val) : s.answerSweepRequest [n] =
    if (s.str i).cfg.cellCount = 0 then s.refuse .badState else if (s.str i).sweep = .idle then ({ code := .ok }, s.startSweep i)
    else s.refuse .busy := by
  unfold State.answerSweepRequest
  rw [stringArg_eq_some hn]
  have hfit : (!s.fitted i) = true ↔ (s.str i).cfg.cellCount = 0 := by simp [State.fitted]
  have hsweep : ((s.str i).sweep.isSweeping) = true ↔ ¬(s.str i).sweep = .idle := Sweep.isSweeping_iff _
  simp only [hfit, hsweep, ite_not]

/-- Settles O31. -/
theorem sweepRequestStartsSweep : Obligations.SweepRequestStartsSweep := by
  intro s src n rest hs u
  refine ⟨fun h => congrArg Host.Outcome.next (hs.refused rfl ?_), fun i hn => ?_⟩
  · show State.answerSweepRequest u [n] = _
    unfold State.answerSweepRequest
    rw [stringArg_eq_none h]
  · have hanswer := u.answerSweepRequest_eq hn
    intro monitors
    have hmonitors : (u.monitorsOf i).map (·.addr) = monitors := u.monitorsOf_addr i
    have hstart : (s.str i).cfg.cellCount ≠ 0 → (s.str i).sweep = .idle → (u.startSweep i).evalDue = s.evalDue →
        exec .sweep s = .next ((u.startSweep i).sendReply src 0x0C { code := .ok }) := fun fitted idle due =>
      congrArg Host.Outcome.next (hs.takeRequest_eq (k := .sweep) rfl
        (hanswer.trans ((if_neg fitted).trans (if_pos idle))) due)
    refine ⟨fun h => congrArg Host.Outcome.next (hs.refused rfl (hanswer.trans (if_pos h))),
      fun fitted busy => congrArg Host.Outcome.next (hs.refused rfl (hanswer.trans ((if_neg fitted).trans (if_neg busy)))),
      fun fitted idle some => ?_, fun fitted idle none => ?_⟩
    · have hsome : u.monitorsOf i ≠ [] := fun h => some (by rw [← hmonitors, h]; rfl)
      have hask := AskStep.sweepAsk i ((u.sweepOwing i).str i).sweep.owed.length (u.sweepOwing i)
      have hstr : (u.sweepOwing i).str i = { u.str i with sweep := .sweeping (u.monitorsOf i) (.running u.site.sweepTimeout) } :=
        u.str_modStr i _
      have heq : u.startSweep i = (u.sweepOwing i).sweepAsk ((u.sweepOwing i).str i).sweep.owed.length i := State.startSweep_owing hsome
      have hrun := hstart fitted idle (by rw [heq]; exact hask.evalDue)
      rw [← heq] at hask
      generalize u.startSweep i = t at hask hrun
      have hasks := hask.asks
      rw [hstr] at hasks
      obtain ⟨l, hl⟩ := hasks.timer _ _ rfl
      refine ⟨t, l, hrun, hl, ?_, (congrArg State.bays hask.eq).trans rfl, (congrArg State.requests hask.eq).trans rfl⟩
      have howed := hasks.owed
      rw [hl] at howed
      exact howed.trans hmonitors
    · have hnone : u.monitorsOf i = [] := List.map_eq_nil_iff.1 (hmonitors.trans none)
      obtain ⟨hsweep, hdue⟩ := u.sweepComplete_sweep i
      have hrun := hstart fitted idle (by rw [State.startSweep_none hnone]; exact hdue)
      refine ⟨_, hrun, ?_⟩
      rw [State.startSweep_none hnone]
      exact hsweep.trans idle

/-! ## A sweep that times out (R43) -/

/-- The cells of a monitor still owed. -/
def State.owedCell (s : State) (i : StringNo) (p : Position) : Bool :=
  ((s.str i).sweep.owed.filterMap fun o => (s.mapped o.addr).bind (·.block)).any fun b => b.1 ≤ p.val && p.val < b.1 + b.2

theorem State.owedCell_iff (s : State) (i : StringNo) (p : Position) : s.owedCell i p = true ↔
    ∃ o ∈ (s.str i).sweep.owed, ∃ e first count, s.mapped o.addr = some e ∧ e.block = some (first, count) ∧ first ≤ p.val ∧
      p.val < first + count := by
  unfold State.owedCell
  simp only [List.any_eq_true, List.mem_filterMap, Option.bind_eq_some_iff, Bool.and_eq_true, decide_eq_true_eq]
  constructor
  · rintro ⟨⟨first, count⟩, ⟨o, ho, e, he, hb⟩, hp⟩
    exact ⟨o, ho, e, first, count, he, hb, hp⟩
  · rintro ⟨o, ho, e, first, count, he, hb, hp⟩
    exact ⟨(first, count), ⟨o, ho, e, he, hb⟩, hp⟩

/-- The string of a sweep that has run out: IDLE, with the owed cells flagged. -/
def State.sweepLate (s : State) (i : StringNo) : State :=
  (s.withdraw (.sweep i)).modStr i fun r =>
    { (r.mapCells fun p c => if s.owedCell i p then { c with sampleFault := true } else c) with sweep := .idle }

theorem State.sweepExpired_eq (s : State) (i : StringNo) : s.sweepExpired i = (s.sweepLate i).sweepComplete i := by
  have h : s.sweepExpired i = (((s.withdraw (.sweep i)).modStr i fun r =>
      r.mapCells fun p c => if s.owedCell i p then { c with sampleFault := true } else c).modStr i
        fun r => { r with sweep := .idle }).sweepComplete i := rfl
  rw [h, State.modStr_modStr]
  rfl

section
variable (s : State) (i : StringNo)

theorem State.sweepLate_str : (s.sweepLate i).str i =
    { ((s.str i).mapCells fun p c => if s.owedCell i p then { c with sampleFault := true } else c) with sweep := .idle } :=
  (s.withdraw (.sweep i)).str_modStr i _

theorem State.sweepLate_str_ne {j : StringNo} (h : j ≠ i) : (s.sweepLate i).str j = s.str j :=
  (s.withdraw (.sweep i)).str_modStr_ne i j _ h

theorem State.sweepLate_cell (p : Position) : (s.sweepLate i).cell i p =
    if s.owedCell i p then { s.cell i p with sampleFault := true } else s.cell i p := by
  unfold State.cell
  rw [State.sweepLate_str]
  exact StringRec.cell_mapCells (s.str i) (fun p c => if s.owedCell i p then { c with sampleFault := true } else c) p

end

/-- A step leaves only offers that waited, and its own. -/
theorem State.beginStep_offers (s : State) (b : BayNo) (c : ChainCmd) (d : Option ChainCmd) :
    ∀ o ∈ (s.beginStep b c d).fp.offers, o ∈ s.fp.offers ∨ o.activity = .bay b := by
  have hlast : ∀ (t : State) (e : ChainCmd), ∀ o ∈ (t.offerBayLast b e).fp.offers, o ∈ t.fp.offers ∨ o.activity = .bay b := by
    intro t e o ho
    obtain ⟨-, h⟩ | ⟨-, h⟩ := t.offerBayLast_cases b e
    · rw [h, State.fp_startConfirm] at ho
      exact .inl ho
    · rw [h] at ho
      obtain ho | ho := List.mem_append.1 ho
      · exact .inl ho
      · exact .inr (by rw [List.mem_singleton.1 ho])
  have hbut : ∀ o ∈ s.offersBut b, o ∈ s.fp.offers := fun o ho => (List.mem_filter.1 ho).1
  intro o ho
  rw [State.beginStep_begun] at ho
  split at ho
  · unfold State.bayTaken at ho
    split at ho
    · rw [State.fp_startConfirm] at ho
      exact .inl (hbut o ho)
    · obtain h | h := hlast _ _ o ho
      · have hfp : ∀ t : State, ((t.startConfirm b c).modBay b fun r => { r with second := none }).fp = t.fp := fun t =>
          State.fp_startConfirm t b c
        rw [hfp] at h
        exact .inl (hbut o h)
      · exact .inr h
  · obtain h | h := List.mem_append.1 ho
    · exact .inl (hbut o h)
    · exact .inr (by rw [List.mem_singleton.1 h])

/-- The transfer that a sweep's completion begins in BASELINE (R88). -/
structure Transferring (u t : State) (b : BayNo) (i : StringNo) : Prop where
  state : (t.str i).state = .transferOut
  startSpread : (t.bay b).startSpread = u.spreadOf i
  setpoint : (t.bay b).setpoint = u.setpointOf i
  eqSetpoint : (t.bay b).eqSetpoint = u.setpointOf i
  readings : t.spreadOf i = u.spreadOf i ∧ t.setpointOf i = u.setpointOf i
  offers : ∀ o ∈ t.fp.offers, o ∈ u.fp.offers ∨ o.activity = .bay b
  taken : u.fp.offers = [] → u.fp.chain.localQ.length < 7 → (t.bay b).confirm = .running u.site.confirmTime ∧
    t.fp.chain = (u.fp.chain.pushLocal (cmdFrame u.own (.chargerOn u.site.charger b (u.setpointOf i) ((u.bay b).limit / 100)))).pushLocal
      (cmdFrame u.own (.switch (u.str i).cfg.switch .equalise))

theorem State.sweepComplete_transfers {u : State} {b : BayNo} {i : StringNo} (state : (u.str i).state = .baseline)
    (bay : (u.str i).bay = some b) : Transferring u (u.sweepComplete i) b i := by
  rw [State.sweepComplete_baseline state bay, State.startStep_eq]
  have hstep := BayStep.beginStep b (u.baselineTaken b i) (.chargerOn u.site.charger b (u.setpointOf i) ((u.bay b).limit / 100))
    (some (.switch (u.str i).cfg.switch .equalise))
  have hoffers := (u.baselineTaken b i).beginStep_offers b (.chargerOn u.site.charger b (u.setpointOf i) ((u.bay b).limit / 100))
    (some (.switch (u.str i).cfg.switch .equalise))
  have hfp : (u.baselineTaken b i).fp = u.fp := (congrArg State.fp (u.baselineTaken_eq b i)).trans rfl
  have htwo : u.fp.offers = [] → u.fp.chain.localQ.length < 7 → _ := fun none room =>
    State.beginStep_two (s := u.baselineTaken b i) (b := b) (c := .chargerOn u.site.charger b (u.setpointOf i) ((u.bay b).limit / 100))
      ⟨by unfold State.offersBut; rw [hfp, none]; rfl, by rw [hfp]; omega⟩ rfl (.switch (u.str i).cfg.switch .equalise)
      (by
        have hsent := (u.baselineTaken b i).sent_length (.chargerOn u.site.charger b (u.setpointOf i) ((u.bay b).limit / 100))
        rw [hfp] at hsent
        omega)
  generalize (u.baselineTaken b i).beginStep b (.chargerOn u.site.charger b (u.setpointOf i) ((u.bay b).limit / 100))
    (some (.switch (u.str i).cfg.switch .equalise)) = t at hstep hoffers htwo
  have hreads := u.baselineTaken_sameReadings b i
  have hboth : SameReadings i (u.baselineTaken b i) t := by
    refine .of_strings ?_ ?_ ?_ ?_ <;> rw [hstep.eq]
  have hmean : u.freshCells i = [] → (t.str i).lastMean = (u.str i).lastMean := fun stale => by
    rw [hstep.str, u.baselineTaken_str, if_pos stale]
  have hall := hreads.trans hboth
  refine ⟨by rw [hstep.str, u.baselineTaken_str], by rw [hstep.bay, u.baselineTaken_bay], by rw [hstep.bay, u.baselineTaken_bay],
    by rw [hstep.bay, u.baselineTaken_bay], ⟨hall.spreadOf, hall.setpointOf hmean⟩, fun o ho => ?_, fun none room => ?_⟩
  · have := hoffers o ho
    rwa [hfp] at this
  · obtain ⟨hf, hb⟩ := htwo none room
    refine ⟨?_, ?_⟩
    · rw [hb]
      show (u.baselineTaken b i).confirmAfter (.switch (u.str i).cfg.switch .equalise) ((u.baselineTaken b i).bay b).confirm = _
      refine (if_pos rfl).trans ?_
      rw [hreads.site]
    · rw [hf]
      have hown : (u.baselineTaken b i).own = u.own := by
        unfold State.own
        rw [u.baselineTaken_eq b i]
      unfold State.sent
      rw [hfp, hown]

end Sys2Proof.Machine
end

section
/-! PROOF. The obligations on a sweep that times out, and on the oldest waiting offer (R11, R43). -/

namespace Sys2Proof.Machine

open Sys2Proof

theorem State.sweepTimeout_due {s : State} {i : StringNo} {l : List Owed} (h : (s.str i).sweep = .sweeping l (.running 0)) :
    exec (.sweepTimeout i) s = .next (s.sweepExpired i).settle := by
  refine congrArg Host.Outcome.next (if_pos ?_)
  rw [h]
  rfl

/-- Settles O39. -/
theorem sweepTimesOut : Obligations.SweepTimesOut := by
  intro s i l quiet sweep flagged
  have hflag : ∀ p, s.owedCell i p = true ↔ flagged p := fun p => by rw [State.owedCell_iff, sweep]; rfl
  have hstep := SweepStep.sweepComplete i (s.sweepLate i)
  have hkeeps := (s.sweepLate i).sweepComplete_sweep i
  have hexec := State.sweepTimeout_due sweep
  rw [State.sweepExpired_eq, State.settle_quiet (hkeeps.2.trans quiet)] at hexec
  have hstate : ((s.sweepLate i).str i).state = (s.str i).state := by rw [State.sweepLate_str]; rfl
  have hother : ∀ o ∈ (s.sweepLate i).fp.offers, o.activity ≠ .sweep i := fun o ho => by
    have := (List.mem_filter.1 ho).2
    rwa [decide_eq_true_eq] at this
  have hignored : (s.str i).state ≠ .baseline → (s.sweepLate i).sweepComplete i = s.sweepLate i := fun h =>
    State.sweepComplete_ignored fun e => absurd (hstate.symm.trans e) h
  have htransfers : ∀ b, (s.str i).state = .baseline → (s.str i).bay = some b →
      Transferring (s.sweepLate i) ((s.sweepLate i).sweepComplete i) b i := fun b state bay =>
    State.sweepComplete_transfers (hstate.trans state) (by rw [State.sweepLate_str]; exact bay)
  have hoffers : ∀ o ∈ ((s.sweepLate i).sweepComplete i).fp.offers, o.activity ≠ .sweep i := by
    intro o ho
    by_cases state : (s.str i).state = .baseline
    · cases bay : (s.str i).bay with
      | none =>
        rw [State.sweepComplete_ignored fun _ => by rw [State.sweepLate_str]; exact bay] at ho
        exact hother o ho
      | some b =>
        obtain h | h := (htransfers b state bay).offers o ho
        · exact hother o h
        · rw [h]; exact nofun
    · rw [hignored state] at ho
      exact hother o ho
  refine ⟨_, hexec, ?_, fun p => ?_, hoffers, fun j hj => (hstep.others j hj).trans (s.sweepLate_str_ne i hj),
    (congrArg State.requests hstep.eq).trans rfl, fun state => ?_, fun b hw => ?_⟩
  · rw [hkeeps.1, State.sweepLate_str]
  · have hcell : ((s.sweepLate i).sweepComplete i).cell i p = (s.sweepLate i).cell i p := by
      unfold State.cell
      rw [hstep.str]
      rfl
    rw [hcell, State.sweepLate_cell]
    exact ⟨fun h => if_pos ((hflag p).2 h), fun h => if_neg fun k => h ((hflag p).1 k)⟩
  · rw [hignored state]
    exact ⟨hstate, rfl, rfl, rfl⟩
  · have h := htransfers b hw.state hw.named
    refine ⟨h.state, h.startSpread.trans h.readings.1.symm, h.setpoint.trans h.readings.2.symm, h.eqSetpoint.trans h.readings.2.symm,
      fun none room => ?_⟩
    have hnone : (s.sweepLate i).fp.offers = [] := by
      show s.fp.offers.filter _ = []
      rw [none]
      rfl
    obtain ⟨hconfirm, hchain⟩ := h.taken hnone room
    refine ⟨hconfirm, ?_⟩
    have hswitch : ((s.sweepLate i).str i).cfg.switch = (s.str i).cfg.switch := by rw [State.sweepLate_str]; rfl
    rw [hchain, h.readings.2, hswitch]
    rfl

/-! ## The oldest offer (R11) -/

/-- The state when the queue has taken the oldest offer. -/
def State.offerSent (s : State) (o : Offer) (rest : List Offer) : State :=
  { s with fp := { s.fp with offers := rest } }.modPort .chain (·.pushLocal (cmdFrame s.own o.cmd))

theorem State.takeOffer_taken {s : State} {o : Offer} {rest : List Offer} (head : s.fp.offers = o :: rest)
    (room : s.fp.chain.localQ.length < 8) : exec .chainLocalOfferTaken s = .next ((s.offerSent o rest).offerTaken o).settle := by
  show execChainLocalOfferTaken s = _
  unfold execChainLocalOfferTaken State.takeOffer
  rw [head]
  exact congrArg Host.Outcome.next (if_pos room)

/-- The activity of an offer leaves nothing due but by a next-fill step. -/
theorem State.nextFill_pendingClose (s : State) : s.nextFill.water.pendingClose = s.water.pendingClose := by
  have hend : ∀ (e : EndRec) (extra : Nat), (s.endRound e extra).water.pendingClose = s.water.pendingClose := by
    intro e extra
    unfold State.endRound
    cases name : s.water.round.string with
    | some i => rw [(State.endRoundWith_ends name e extra _).water]
    | none =>
      have hname : (s.modRound fun r => r.close e extra).water.round.string = none := name
      unfold State.endRoundWith
      dsimp only
      rw [hname]
      rfl
  have hopen : ∀ i p rest, (s.openFill i p rest).water.pendingClose = s.water.pendingClose := by
    intro i p rest
    cases bind : (s.cell i p).binding with
    | none =>
      unfold State.openFill
      rw [bind]
    | some b =>
      cases room : s.offerRoom with
      | true => rw [State.openFill_taken bind room]
      | false => rw [State.openFill_waits bind room]
  unfold State.nextFill
  split
  · split
    · split
      · exact hend _ _
      · exact hopen _ _ _
    · exact hend _ _
  · rfl

theorem State.openTaken_some {s : State} {f : Fill} (h : s.water.round.fill = some f) : s.openTaken = s.modRound fun r =>
    { r with fill := some { f with phase := .outstanding }, fillTimer := .running (f.maxOpen + 5) } := by
  simp only [State.openTaken, State.modRound, State.modWater, h, Config.fillGrace]

/-- Settles O14. -/
theorem oldestOfferTaken : Obligations.OldestOfferTaken := by
  intro s o rest head room quiet taken
  have hexec : exec .chainLocalOfferTaken s = .next (taken.offerTaken o).settle := State.takeOffer_taken head room
  have hquiet : ∀ t : State, taken.offerTaken o = t → t.evalDue = s.evalDue → exec .chainLocalOfferTaken s = .next t := by
    intro t ht due
    rw [hexec, ht, State.settle_quiet (due.trans quiet)]
  refine ⟨⟨_, hexec⟩, fun fan => hquiet _ ?_ rfl, fun a ch pull duty mo f act cmd fill => hquiet _ ?_ rfl, fun a ch act cmd => ?_,
    fun b a target act cmd shut none => hquiet _ ?_ rfl, fun b d act some => ?_, fun i a act cmd => ?_⟩
  · unfold State.offerTaken
    rw [fan]
  · unfold State.offerTaken
    rw [act, cmd]
    exact State.openTaken_some (s := taken) fill
  · refine ⟨_, hexec, ?_⟩
    have htaken : taken.offerTaken o = taken.closeTaken := by
      unfold State.offerTaken
      rw [act, cmd]
    rw [htaken, (Grants.settle taken.closeTaken).water]
    exact (State.nextFill_pendingClose (taken.modWater fun w => { w with pendingClose := Option.none }))
  · have hsecond : (taken.bay b).second = Option.none := none
    have hconfirms : (ChainCmd.switch a target).confirms = true := by
      cases target with
      | opened => exact absurd rfl shut
      | equalise => rfl
      | float => rfl
    unfold State.offerTaken
    rw [act, cmd]
    show taken.bayTaken b (.switch a target) = _
    unfold State.bayTaken
    rw [hsecond, State.startConfirm_ite, hconfirms]
    rfl
  · have hsecond : (taken.bay b).second = Option.some d := some
    have htaken : taken.offerTaken o = ((taken.startConfirm b o.cmd).modBay b fun r => { r with second := Option.none }).offerBayLast b d := by
      unfold State.offerTaken
      rw [act]
      show taken.bayTaken b o.cmd = _
      unfold State.bayTaken
      rw [hsecond]
    refine hquiet _ htaken ?_
    rw [(BayStep.offerBayLast b _ d).evalDue]
    exact (BayStep.startConfirm b taken o.cmd).evalDue
  · have htaken : taken.offerTaken o = (taken.noteAsked i a).sweepNext i := by
      unfold State.offerTaken
      rw [act, cmd]
    have hnoted := AskStep.noteAsked i taken a
    have hnext : AskStep i (taken.noteAsked i a) ((taken.noteAsked i a).sweepNext i) := AskStep.sweepAsk i _ _
    have hall := hnoted.trans hnext
    refine ⟨_, hquiet _ htaken hall.evalDue, hall.asks.owed, hnext.asks.asked a fun x hx ha => ?_⟩
    have hstr : ((taken.noteAsked i a).str i).sweep = (taken.str i).sweep.mapOwed (markAsked a) :=
      congrArg StringRec.sweep (taken.str_modStr i fun r => { r with sweep := r.sweep.mapOwed (markAsked a) })
    rw [hstr, Sweep.owed_mapOwed _ rfl] at hx
    obtain ⟨y, -, haddr, hmarks, -⟩ := mem_markAsked hx
    exact hmarks (haddr.symm.trans ha)

end Sys2Proof.Machine
end

section
/-! PROOF. RELEASE (R107), the hour tick (R64, R65), and a string report (R36, R37, R39, R91). -/

namespace Sys2Proof.Machine

open Sys2Proof

/-! ## RELEASE (R107) -/

/-- The state a RELEASE leaves, before the evaluation that follows. -/
def State.released (s : State) (b : BayNo) (i : StringNo) : State :=
  { ((s.setBay b {}).modStr i fun r => { r with bay := none, state := .float }) with holds := s.freedHolds b i }.modGas
    fun g : Gas => { g with isolated := g.isolated - 1, stat := g.state ≠ GasState.normal || 0 < g.isolated - 1 }

theorem State.withdraw_of_none {s : State} {a : Activity} (h : ∀ o ∈ s.fp.offers, o.activity ≠ a) : s.withdraw a = s := by
  have hfilter : s.fp.offers.filter (·.activity ≠ a) = s.fp.offers := List.filter_eq_self.2 fun o ho => decide_eq_true (h o ho)
  unfold State.withdraw
  rw [hfilter]

theorem State.releaseString_eq {s : State} {b : BayNo} {i : StringNo} (bay : (s.str i).bay = some b)
    (none : ∀ o ∈ s.fp.offers, o.activity ≠ .bay b) : s.releaseString i = (s.released b i).trigger := by
  have hfloat : (s.freeBay b i).enterFloat i = { (s.setBay b {}).modStr i fun r => { r with bay := Option.none, state := .float } with
      holds := s.freedHolds b i, evalDue := true } := by
    have htwo := (s.setBay b {}).modStr_modStr i (fun r => { r with bay := Option.none }) fun r => { r with state := .float }
    rw [State.freeBay_eq]
    exact congrArg (fun u : State => { u with holds := s.freedHolds b i, evalDue := true }) htwo
  unfold State.releaseString
  rw [bay]
  dsimp only
  rw [State.withdraw_of_none none, hfloat]
  rfl

/-- Settles O32. -/
theorem releaseFreesBlockedBay : Obligations.ReleaseFreesBlockedBay := by
  intro s src n rest hs u
  refine ⟨fun h => congrArg Host.Outcome.next (hs.refused rfl ?_), fun i hn => ?_⟩
  · show State.answerRelease u [n] = _
    unfold State.answerRelease
    rw [stringArg_eq_none h]
  · have hanswer : u.answerRelease [n] = if (s.str i).state = .isolated then ({ code := .ok }, u.releaseString i) else u.refuse .badState := by
      unfold State.answerRelease
      rw [stringArg_eq_some hn]
      rfl
    refine ⟨fun h => congrArg Host.Outcome.next (hs.refused rfl (hanswer.trans (if_neg h))), fun b isolated bay none => ?_⟩
    intro held othersFree kept hfree hbusy
    have hkept : kept = u.freedHolds b i := by
      show kept = if othersFree then held.filter (· ≠ ⟨s.site.charger, .charger⟩) else held
      by_cases h : othersFree
      · rw [if_pos h]; exact hfree h
      · rw [if_neg h]; exact hbusy h
    subst hkept
    have hrelease := hanswer.trans (if_pos isolated)
    rw [State.releaseString_eq (s := u) bay none] at hrelease
    exact congrArg Host.Outcome.next (hs.triggered (v := u.released b i) (k := .release) (answer := State.answerRelease) rfl hrelease rfl)

/-! ## Raises that follow one another (R63) -/

/-- An entry lists the source for the pair, at this level or above. -/
def Entry.covers (e : Entry) (i : StringNo) (k : JobKind) (src : Source) (level : Nat) : Prop :=
  e.string = i ∧ e.kind = k ∧ e.sources.insert src = e.sources ∧ level ≤ e.level

theorem SourceSet.insert_insert (x : SourceSet) (a : Source) : (x.insert a).insert a = x.insert a := by cases a <;> rfl

theorem SourceSet.insert_comm (x : SourceSet) (a b : Source) : (x.insert a).insert b = (x.insert b).insert a := by
  cases a with
  | _ => cases b with | _ => rfl

/-- A map that changes only what a filter drops, before and after. -/
theorem filter_map_of_not {α : Type} (p : α → Bool) (f : α → α) (h : ∀ x, f x = x ∨ (p x = false ∧ p (f x) = false)) (l : List α) :
    (l.map f).filter p = l.filter p := by
  induction l with
  | nil => rfl
  | cons x l ih =>
    rw [List.map_cons, List.filter_cons, List.filter_cons, ih]
    obtain hx | ⟨hx, hfx⟩ := h x
    · rw [hx]
    · rw [hx, hfx]
      rfl

section
variable (l : List Entry) (i : StringNo) (k : JobKind) (src : Source) (level now : Nat)

theorem raiseInto_covers : ∃ e ∈ raiseInto l i k src level now, e.covers i k src level := by
  unfold raiseInto
  split
  · rename_i h
    obtain ⟨e, he, hfor⟩ := List.any_eq_true.1 h
    refine ⟨_, List.mem_map_of_mem he, ?_⟩
    rw [if_pos hfor]
    exact ⟨((e.isFor_iff i k).1 hfor).1, ((e.isFor_iff i k).1 hfor).2, SourceSet.insert_insert _ _, le_max_right _ _⟩
  · exact ⟨_, List.mem_append_right _ (List.mem_singleton.2 rfl), rfl, rfl, SourceSet.insert_insert _ _, le_rfl⟩

theorem raiseInto_keeps {j : StringNo} {k' : JobKind} {src' : Source} {level' : Nat} (h : ∃ e ∈ l, e.covers j k' src' level') :
    ∃ e ∈ raiseInto l i k src level now, e.covers j k' src' level' := by
  obtain ⟨e, he, hj, hk, hsrc, hlevel⟩ := h
  unfold raiseInto
  split
  · refine ⟨_, List.mem_map_of_mem he, ?_⟩
    split
    · exact ⟨hj, hk, (SourceSet.insert_comm _ _ _).trans (by rw [hsrc]), hlevel.trans (le_max_left _ _)⟩
    · exact ⟨hj, hk, hsrc, hlevel⟩
  · exact ⟨e, List.mem_append_left _ he, hj, hk, hsrc, hlevel⟩

/-- The entries of every other pair stay. -/
theorem raiseInto_others {j : StringNo} {k' : JobKind} (h : ¬(j = i ∧ k' = k)) :
    (raiseInto l i k src level now).filter (·.isFor j k') = l.filter (·.isFor j k') := by
  have hnot : ∀ e : Entry, e.isFor i k = true → e.isFor j k' = false := fun e he => by
    rw [← Bool.not_eq_true, Entry.isFor_iff]
    rintro ⟨rfl, rfl⟩
    exact h ⟨((e.isFor_iff i k).1 he).1, ((e.isFor_iff i k).1 he).2⟩
  unfold raiseInto
  split
  · refine filter_map_of_not _ _ (fun e => ?_) l
    by_cases he : e.isFor i k = true
    · rw [if_pos he]
      exact .inr ⟨hnot e he, hnot e he⟩
    · rw [if_neg he]
      exact .inl rfl
  · rw [List.filter_append, List.filter_cons, hnot _ ((Entry.isFor_iff _ i k).2 ⟨rfl, rfl⟩)]
    exact List.append_nil _

end

/-- A run of raises: each pair and source that `P` calls for is listed, what was listed stays, and no other pair is touched. -/
structure Raises (P : StringNo → JobKind → Source → Prop) (s t : State) : Prop where
  eq : t = { s with requests := t.requests, evalDue := t.evalDue }
  keeps : ∀ j k src level, (∃ e ∈ s.requests, e.covers j k src level) → ∃ e ∈ t.requests, e.covers j k src level
  covered : ∀ j k src, P j k src → ∃ e ∈ t.requests, e.covers j k src (s.str j).cfg.level
  others : ∀ j k, (∀ src, ¬P j k src) → t.requests.filter (·.isFor j k) = s.requests.filter (·.isFor j k)

theorem Raises.refl {P : StringNo → JobKind → Source → Prop} (h : ∀ j k src, ¬P j k src) (s : State) : Raises P s s :=
  ⟨rfl, fun _ _ _ _ h => h, fun j k src hp => absurd hp (h j k src), fun _ _ _ => rfl⟩

theorem Raises.trans {P Q R : StringNo → JobKind → Source → Prop} {s t u : State} (h : Raises P s t) (k : Raises Q t u)
    (both : ∀ j kd src, R j kd src ↔ P j kd src ∨ Q j kd src) : Raises R s u := by
  have hstr : ∀ j, t.str j = s.str j := fun j => by rw [h.eq]; rfl
  refine ⟨?_, fun j kd src level hc => k.keeps j kd src level (h.keeps j kd src level hc), fun j kd src hr => ?_, fun j kd hn => ?_⟩
  · rw [k.eq, h.eq]
  · obtain hp | hq := (both j kd src).1 hr
    · exact k.keeps j kd src _ (h.covered j kd src hp)
    · rw [← hstr]; exact k.covered j kd src hq
  · exact (k.others j kd fun src hq => hn src ((both j kd src).2 (.inr hq))).trans
      (h.others j kd fun src hp => hn src ((both j kd src).2 (.inl hp)))

/-- One check of the hour tick, and its raise. -/
theorem Raises.check (s : State) (cond : Bool) (i : StringNo) (k : JobKind) (src : Source) :
    Raises (fun j k' src' => (cond = true ∧ (s.str i).cfg.level ≠ 0) ∧ j = i ∧ k' = k ∧ src' = src) s
      (if cond then s.autoRaise i k src else s) := by
  by_cases h : cond = true ∧ (s.str i).cfg.level ≠ 0
  · have heq : (if cond then s.autoRaise i k src else s) = s.raise i k src (s.str i).cfg.level := (if_pos h.1).trans (if_neg h.2)
    rw [heq]
    refine ⟨rfl, fun j k' src' level hc => raiseInto_keeps _ _ _ _ _ _ hc, ?_, fun j k' hn => ?_⟩
    · rintro j k' src' ⟨-, rfl, rfl, rfl⟩
      exact raiseInto_covers _ _ _ _ _ _
    · exact raiseInto_others _ _ _ _ _ _ fun e => hn src ⟨h, e.1, e.2, rfl⟩
  · have heq : (if cond then s.autoRaise i k src else s) = s := by
      split
      · rename_i hc
        exact if_pos (not_not.1 fun hl => h ⟨hc, hl⟩)
      · rfl
    rw [heq]
    exact .refl (fun j k' src' hp => h hp.1) s

/-! ## The hour tick (R64, R65) -/

/-- The check that holds for a string, with the pair and the source it raises (R65). -/
def State.checks (s : State) (i : StringNo) (k : JobKind) (src : Source) : Prop :=
  s.fitted i = true ∧ (s.str i).cfg.level ≠ 0 ∧
    ((src = .interval ∧ k = .equalise ∧ s.intervalHolds i = true) ∨ (src = .spread ∧ k = .equalise ∧ s.spreadHolds i = true) ∨
      (src = .debt ∧ k = .watering ∧ s.debtHolds i = true))

/-- The checks do not look at the list. -/
theorem State.checks_of_eq {s t : State} (h : t = { s with requests := t.requests, evalDue := t.evalDue }) (i : StringNo) (k : JobKind)
    (src : Source) : t.checks i k src ↔ s.checks i k src := by
  rw [h]
  exact Iff.rfl

section
variable (s : State) (i : StringNo)

def State.tickInterval : State := if s.intervalHolds i then s.autoRaise i .equalise .interval else s
def State.tickSpread : State := if s.spreadHolds i then s.autoRaise i .equalise .spread else s
def State.tickDebt : State := if s.debtHolds i then s.autoRaise i .watering .debt else s

end

/-- The three checks of a fitted string, one after the other. -/
theorem State.tickString_fitted {s : State} {i : StringNo} (h : s.fitted i = true) :
    s.tickString i = ((s.tickInterval i).tickSpread i).tickDebt i := if_pos h

theorem Raises.tickFitted {s : State} {i : StringNo} (fitted : s.fitted i = true) :
    Raises (fun j k src => j = i ∧ s.checks i k src) s (((s.tickInterval i).tickSpread i).tickDebt i) := by
  have h1 : Raises _ s (s.tickInterval i) := Raises.check s (s.intervalHolds i) i .equalise .interval
  generalize s.tickInterval i = t at h1
  have h2 : Raises _ t (t.tickSpread i) := Raises.check t (t.spreadHolds i) i .equalise .spread
  generalize t.tickSpread i = u at h2
  have h3 : Raises _ u (u.tickDebt i) := Raises.check u (u.debtHolds i) i .watering .debt
  have htwo := h1.trans h2 fun _ _ _ => Iff.rfl
  have hspread : t.spreadHolds i = s.spreadHolds i := by rw [h1.eq]; rfl
  have hdebt : u.debtHolds i = s.debtHolds i := by rw [htwo.eq]; rfl
  have hlt : (t.str i).cfg.level = (s.str i).cfg.level := by rw [h1.eq]; rfl
  have hlu : (u.str i).cfg.level = (s.str i).cfg.level := by rw [htwo.eq]; rfl
  refine htwo.trans h3 fun j k src => ?_
  rw [hspread, hdebt, hlt, hlu]
  constructor
  · rintro ⟨rfl, -, level, ⟨rfl, rfl, h⟩ | ⟨rfl, rfl, h⟩ | ⟨rfl, rfl, h⟩⟩
    · exact .inl (.inl ⟨⟨h, level⟩, rfl, rfl, rfl⟩)
    · exact .inl (.inr ⟨⟨h, level⟩, rfl, rfl, rfl⟩)
    · exact .inr ⟨⟨h, level⟩, rfl, rfl, rfl⟩
  · rintro ((⟨⟨h, level⟩, rfl, rfl, rfl⟩ | ⟨⟨h, level⟩, rfl, rfl, rfl⟩) | ⟨⟨h, level⟩, rfl, rfl, rfl⟩)
    · exact ⟨rfl, fitted, level, .inl ⟨rfl, rfl, h⟩⟩
    · exact ⟨rfl, fitted, level, .inr (.inl ⟨rfl, rfl, h⟩)⟩
    · exact ⟨rfl, fitted, level, .inr (.inr ⟨rfl, rfl, h⟩)⟩

theorem Raises.tickString (s : State) (i : StringNo) : Raises (fun j k src => j = i ∧ s.checks i k src) s (s.tickString i) := by
  by_cases fitted : s.fitted i = true
  · rw [State.tickString_fitted fitted]
    exact .tickFitted fitted
  · have hsame : s.tickString i = s := if_neg fitted
    rw [hsame]
    exact .refl (fun j k src h => fitted h.2.1) s

theorem Raises.ticks (l : List StringNo) : ∀ s : State,
    Raises (fun j k src => j ∈ l ∧ s.checks j k src) s (l.foldl State.tickString s) := by
  induction l with
  | nil => exact fun s => .refl (fun j k src h => List.not_mem_nil h.1) s
  | cons i l ih =>
    intro s
    have hfirst := Raises.tickString s i
    refine hfirst.trans (ih (s.tickString i)) fun j k src => ?_
    rw [State.checks_of_eq hfirst.eq, List.mem_cons]
    constructor
    · rintro ⟨rfl | hj, hc⟩
      · exact .inl ⟨rfl, hc⟩
      · exact .inr ⟨hj, hc⟩
    · rintro (⟨rfl, hc⟩ | ⟨hj, hc⟩)
      · exact ⟨.inl rfl, hc⟩
      · exact ⟨.inr hj, hc⟩

/-- The ages after the tick. -/
theorem State.advanceAges_str (s : State) (i : StringNo) : s.advanceAges.str i =
    if (s.str i).cfg.cellCount ≠ 0 then { s.str i with age := satInc (s.str i).age } else s.str i := State.str_mapStrings _ _ i

theorem State.advanceAges_fields (s : State) (i : StringNo) :
    (s.advanceAges.str i).cfg = (s.str i).cfg ∧ (s.advanceAges.str i).state = (s.str i).state ∧
      (s.advanceAges.str i).retryHold = (s.str i).retryHold ∧ (s.advanceAges.str i).cells = (s.str i).cells ∧
      (s.advanceAges.str i).q = (s.str i).q := by
  rw [State.advanceAges_str]
  split <;> exact ⟨rfl, rfl, rfl, rfl, rfl⟩

theorem State.advanceAges_readings (s : State) (i : StringNo) : SameReadings i s s.advanceAges := by
  obtain ⟨hcfg, -, -, hcells, -⟩ := s.advanceAges_fields i
  exact ⟨hcells, hcfg, rfl, rfl, rfl⟩

/-- The checks as they stand after the ages have advanced. -/
theorem State.advanceAges_checks (s : State) (i : StringNo) (k : JobKind) (src : Source) : s.advanceAges.checks i k src ↔
    (s.str i).cfg.cellCount ≠ 0 ∧ (s.str i).cfg.level ≠ 0 ∧
      ((src = .interval ∧ k = .equalise ∧ (s.str i).cfg.interval ≠ 0 ∧ (s.str i).cfg.interval ≤ min ((s.str i).age + 1) 65535 ∧
          (s.str i).retryHold = none ∧ (s.str i).state ∉ [StringState.baseline, .transferOut, .equalising, .held, .transferBack]) ∨
        (src = .spread ∧ k = .equalise ∧ (s.str i).state = .float ∧ (s.str i).retryHold = none ∧ (s.profile i).spreadTrigger ≠ 0 ∧
          ∃ w, s.spreadOf i = some w ∧ (s.profile i).spreadTrigger < w) ∨
        (src = .debt ∧ k = .watering ∧ (s.str i).cfg.threshold ≠ 0 ∧
          (s.str i).cfg.threshold ≤ (s.str i).q * (s.profile i).gassing / 3600000 ∧ (s.str i).state ≠ .watering)) := by
  obtain ⟨hcfg, hstate, hretry, -, hq⟩ := s.advanceAges_fields i
  have hreads := s.advanceAges_readings i
  unfold State.checks
  by_cases fitted : (s.str i).cfg.cellCount ≠ 0
  · have hage : (s.advanceAges.str i).age = min ((s.str i).age + 1) 65535 := by rw [State.advanceAges_str, if_pos fitted]; rfl
    have hfit : s.advanceAges.fitted i = true := by
      unfold State.fitted
      rw [hcfg, bne_iff_ne]
      exact fitted
    have hnone : s.advanceAges.inRetryHold i = false ↔ (s.str i).retryHold = none := by
      unfold State.inRetryHold
      rw [hretry, Option.isSome_eq_false_iff, Option.isNone_iff_eq_none]
    have hbay : (s.str i).state.inBay = false ↔ (s.str i).state ∉ [StringState.baseline, .transferOut, .equalising, .held, .transferBack] := by
      rw [← Bool.not_eq_true, StringState.inBay_iff]
    have hinterval : s.advanceAges.intervalHolds i = true ↔ (s.str i).cfg.interval ≠ 0 ∧
        (s.str i).cfg.interval ≤ min ((s.str i).age + 1) 65535 ∧ (s.str i).retryHold = none ∧
          (s.str i).state ∉ [StringState.baseline, .transferOut, .equalising, .held, .transferBack] := by
      unfold State.intervalHolds
      simp only [hcfg, hage, hstate, Bool.and_eq_true, decide_eq_true_eq, Bool.not_eq_true', hnone, hbay, and_assoc]
    have hspread : s.advanceAges.spreadHolds i = true ↔ (s.str i).state = .float ∧ (s.str i).retryHold = none ∧
        (s.profile i).spreadTrigger ≠ 0 ∧ ∃ w, s.spreadOf i = some w ∧ (s.profile i).spreadTrigger < w := by
      unfold State.spreadHolds
      rw [hreads.profile, hreads.spreadOf, hstate]
      simp only [Bool.and_eq_true, decide_eq_true_eq, Bool.not_eq_true', hnone]
      cases s.spreadOf i with
      | none => simp
      | some w => simp; tauto
    have hdebt : s.advanceAges.debtHolds i = true ↔ (s.str i).cfg.threshold ≠ 0 ∧
        (s.str i).cfg.threshold ≤ (s.str i).q * (s.profile i).gassing / 3600000 ∧ (s.str i).state ≠ .watering := by
      unfold State.debtHolds State.debtReached State.debtOf debt
      rw [hreads.profile, hstate, hq]
      simp only [hcfg, Bool.and_eq_true, decide_eq_true_eq, and_assoc, Config.mAsPerAh]
    rw [hfit, hcfg, hinterval, hspread, hdebt]
    simp only [true_and, ne_eq, fitted, not_false_eq_true]
  · have hfit : s.advanceAges.fitted i = false := by
      unfold State.fitted
      rw [hcfg, bne_eq_false_iff_eq]
      exact not_not.1 fitted
    rw [hfit]
    exact ⟨fun h => absurd h.1 Bool.false_ne_true, fun h => absurd h.1 fitted⟩

end Sys2Proof.Machine
end

section
/-! PROOF. The obligations on the hour tick (R64, R65) and on a string report (R36, R37, R39, R91). -/

namespace Sys2Proof.Machine

open Sys2Proof

/-! ## The hour tick (R64, R65) -/

/-- The state at an hour tick, the tick delivered and the ages advanced. -/
def State.hourAged (s : State) : State := ({ s with clock := { s.clock with hourDue := false } } : State).advanceAges

/-- The list after the checks of every string. -/
def State.hourList (s : State) : List Entry := (allStrings.foldl State.tickString s.hourAged).requests

theorem State.hourTick_due {s : State} (h : s.clock.hourDue = true) (quiet : s.evalDue = false) :
    exec .hourTick s = .next ({ s.hourAged with requests := s.hourList } : State).evaluate := by
  have hexec : exec .hourTick s = .next (allStrings.foldl State.tickString s.hourAged).trigger.settle :=
    congrArg Host.Outcome.next (if_pos h)
  have hdue : s.hourAged.evalDue = false := quiet
  have heq := (Raises.ticks allStrings s.hourAged).eq
  rw [hexec, State.settle_due _ rfl]
  unfold State.hourList
  generalize allStrings.foldl State.tickString s.hourAged = t at heq
  have hclear : ({ t.trigger with evalDue := false } : State) = { s.hourAged with requests := t.requests } := by
    rw [← hdue]
    exact congrArg (fun u : State => { u with evalDue := s.hourAged.evalDue }) heq
  rw [hclear]

theorem State.hourAged_checks (s : State) (i : StringNo) (k : JobKind) (src : Source) : s.hourAged.checks i k src ↔
    (s.str i).cfg.cellCount ≠ 0 ∧ (s.str i).cfg.level ≠ 0 ∧
      ((src = .interval ∧ k = .equalise ∧ (s.str i).cfg.interval ≠ 0 ∧ (s.str i).cfg.interval ≤ min ((s.str i).age + 1) 65535 ∧
          (s.str i).retryHold = none ∧ (s.str i).state ∉ [StringState.baseline, .transferOut, .equalising, .held, .transferBack]) ∨
        (src = .spread ∧ k = .equalise ∧ (s.str i).state = .float ∧ (s.str i).retryHold = none ∧ (s.profile i).spreadTrigger ≠ 0 ∧
          ∃ w, s.spreadOf i = some w ∧ (s.profile i).spreadTrigger < w) ∨
        (src = .debt ∧ k = .watering ∧ (s.str i).cfg.threshold ≠ 0 ∧
          (s.str i).cfg.threshold ≤ (s.str i).q * (s.profile i).gassing / 3600000 ∧ (s.str i).state ≠ .watering)) :=
  State.advanceAges_checks { s with clock := { s.clock with hourDue := false } } i k src

theorem State.hourAged_level (s : State) (i : StringNo) : (s.hourAged.str i).cfg.level = (s.str i).cfg.level :=
  congrArg StringConfig.level (State.advanceAges_fields { s with clock := { s.clock with hourDue := false } } i).1

/-- The pair a check raises is that of its source. -/
theorem State.checks_kind {s : State} {i : StringNo} {k : JobKind} {src : Source} (h : s.checks i k src) :
    (if src = .debt then JobKind.watering else .equalise) = k := by
  obtain ⟨-, -, ⟨rfl, rfl, -⟩ | ⟨rfl, rfl, -⟩ | ⟨rfl, rfl, -⟩⟩ := h <;> rfl

/-- Settles O37. -/
theorem hourTickRaises : Obligations.HourTickRaises := by
  intro s due quiet ticked holds kindOf
  have hraises := Raises.ticks allStrings s.hourAged
  have hchecks : ∀ i src, holds i src ↔ s.hourAged.checks i (kindOf src) src := by
    intro i src
    rw [State.hourAged_checks]
    cases src with
    | management => simp [holds]
    | level => simp [holds]
    | interval => simp [holds, kindOf]
    | spread => simp [holds, kindOf]
    | debt => simp [holds, kindOf]
  refine ⟨s.hourList, State.hourTick_due due quiet, fun i src h => ?_, fun i k h => ?_⟩
  · have hc := hraises.covered i (kindOf src) src ⟨mem_allStrings i, (hchecks i src).1 h⟩
    rw [State.hourAged_level] at hc
    exact hc
  · refine hraises.others i k fun src hc => ?_
    have hk : kindOf src = k := State.checks_kind hc.2
    exact h src ((hchecks i src).2 (hk ▸ hc.2)) hk

/-! ## A string report (R36, R37) -/

/-- The string after an applied report, before the census and the bay hear of it. -/
def State.reportTaken (s : State) (i : StringNo) (current : Int) (voltage : Nat) : State :=
  s.modStr i fun r => { r.integrate current (s.interval i) with
    lastArrival := some s.second, lastCurrent := current, lastVoltage := voltage }

theorem State.stringReported_applied {s : State} {m : MapEntry} {i : StringNo} (string : m.string = some i)
    (fitted : (s.str i).cfg.cellCount ≠ 0) (sensor : (s.str i).cfg.sensor = m.addr) (received : Int) (voltage : Nat) :
    s.stringReported m received voltage =
      ((s.reportTaken i (clampInt (-Config.maxCurrent) Config.maxCurrent received) voltage).heard i).sampleArrived i
        (clampInt (-Config.maxCurrent) Config.maxCurrent received) := by
  have hfit : s.fitted i = true ∧ (s.str i).cfg.sensor = m.addr := ⟨bne_iff_ne.2 fitted, sensor⟩
  have htwo := s.modStr_modStr i (fun r => r.integrate (clampInt (-Config.maxCurrent) Config.maxCurrent received) (s.interval i))
    fun r => { r with lastArrival := some s.second, lastCurrent := clampInt (-Config.maxCurrent) Config.maxCurrent received, lastVoltage := voltage }
  unfold State.stringReported
  rw [string]
  refine (if_pos hfit).trans ?_
  exact congrArg (fun u : State => (u.heard i).sampleArrived i (clampInt (-Config.maxCurrent) Config.maxCurrent received)) htwo

theorem State.stringReported_ignored {s : State} {m : MapEntry} {i : StringNo} (string : m.string = some i)
    (h : (s.str i).cfg.cellCount = 0 ∨ (s.str i).cfg.sensor ≠ m.addr) (received : Int) (voltage : Nat) :
    s.stringReported m received voltage = s := by
  unfold State.stringReported
  rw [string]
  refine if_neg fun ⟨hfit, hsensor⟩ => ?_
  obtain h | h := h
  · exact (bne_iff_ne.1 hfit) h
  · exact h hsensor

/-- The string that is heard is PRESENT; a change is posted. -/
structure Heard (s t : State) (i : StringNo) : Prop where
  str : t.str i = { s.str i with presence := .present }
  others : ∀ j, j ≠ i → t.str j = s.str j
  bays : t.bays = s.bays
  site : t.site = s.site
  same : (s.str i).presence = .present → t = s
  posted : (s.str i).presence ≠ .present → ∃ x, t.mgmt.results.getLast? = some x ∧ x.string = i ∧ x.part = .presence .present

theorem State.heard_heard (s : State) (i : StringNo) : Heard s (s.heard i) i := by
  by_cases present : (s.str i).presence = .present
  · have heq : s.heard i = s := if_pos present
    rw [heq]
    exact ⟨by rw [← present], fun _ _ => rfl, rfl, rfl, fun _ => rfl, fun h => absurd present h⟩
  · have heq : s.heard i = ((s.modStr i fun r => { r with presence := .present }).post
        { string := i, cls := .changed, cause := .none, startMinute := s.minute, elapsed := 0, part := .presence .present }).trigger :=
      if_neg present
    have hpost := (s.modStr i fun r => { r with presence := .present }).post_eq
      { string := i, cls := .changed, cause := .none, startMinute := s.minute, elapsed := 0, part := .presence .present }
    have hlast := (s.modStr i fun r => { r with presence := .present }).post_last
      { string := i, cls := .changed, cause := .none, startMinute := s.minute, elapsed := 0, part := .presence .present }
    rw [heq]
    generalize (s.modStr i fun r => { r with presence := .present }).post
      { string := i, cls := .changed, cause := .none, startMinute := s.minute, elapsed := 0, part := .presence .present } = t at hpost hlast
    have hstr : ∀ j, t.str j = (s.modStr i fun r => { r with presence := .present }).str j := fun j => by rw [hpost]; rfl
    exact ⟨(hstr i).trans (s.str_modStr i fun r => { r with presence := .present }),
      fun j hj => (hstr j).trans (s.str_modStr_ne i j (fun r => { r with presence := .present }) hj),
      (congrArg State.bays hpost).trans rfl, (congrArg State.site hpost).trans rfl, fun h => absurd h present,
      fun _ => ⟨_, hlast, rfl, rfl⟩⟩

/-- The bay a sample reaches (R91). -/
structure SampleHeard (s t : State) (i : StringNo) (current : Int) : Prop where
  eq : t = { s with bays := t.bays }
  none : (s.str i).bay = Option.none → t.bays = s.bays
  equalising : ∀ b, (s.str i).bay = some b → (s.str i).state = .equalising →
    (t.bay b).sample = .running s.site.sampleTimeout ∧
      ((s.bay b).count < 65535 → (t.bay b).count = (s.bay b).count + 1 ∧ (t.bay b).sum = (s.bay b).sum + current)
  held : ∀ b, (s.str i).bay = some b → (s.str i).state = .held → t.bay b = { s.bay b with sample := .running s.site.sampleTimeout }

/-- The bay with one more sample in its window. -/
def Bay.sampled (r : Bay) (timeout : Nat) (current : Int) : Bay :=
  if r.count < 65535 then { r with sample := .running timeout, count := r.count + 1, sum := r.sum + current }
  else { r with sample := .running timeout }

theorem State.sampleArrived_equalising {s : State} {i : StringNo} {b : BayNo} (bay : (s.str i).bay = some b)
    (state : (s.str i).state = .equalising) (current : Int) :
    s.sampleArrived i current = s.modBay b fun r => r.sampled s.site.sampleTimeout current := by
  unfold State.sampleArrived
  rw [bay, state]
  rfl

theorem State.sampleArrived_held {s : State} {i : StringNo} {b : BayNo} (bay : (s.str i).bay = some b)
    (state : (s.str i).state = .held) (current : Int) :
    s.sampleArrived i current = s.modBay b fun r => { r with sample := .running s.site.sampleTimeout } := by
  unfold State.sampleArrived
  rw [bay, state]

theorem State.sampleArrived_none {s : State} {i : StringNo} (h : ∀ b, (s.str i).bay = some b →
    (s.str i).state ≠ .equalising ∧ (s.str i).state ≠ .held) (current : Int) : s.sampleArrived i current = s := by
  unfold State.sampleArrived
  split
  · rfl
  · rename_i b hb
    obtain ⟨he, hh⟩ := h b hb
    split
    · exact absurd ‹_› he
    · exact absurd ‹_› hh
    · rfl

theorem State.sampleArrived_heard (s : State) (i : StringNo) (current : Int) : SampleHeard s (s.sampleArrived i current) i current := by
  by_cases h : ∀ b, (s.str i).bay = some b → (s.str i).state ≠ .equalising ∧ (s.str i).state ≠ .held
  · rw [State.sampleArrived_none h]
    exact ⟨rfl, fun _ => rfl, fun b hb he => absurd he (h b hb).1, fun b hb hh => absurd hh (h b hb).2⟩
  · push Not at h
    obtain ⟨b, bay, h⟩ := h
    have hb : ∀ c, (s.str i).bay = some c → c = b := fun c hc => Option.some.inj (hc.symm.trans bay)
    have hnone : (s.str i).bay ≠ Option.none := by rw [bay]; exact nofun
    by_cases state : (s.str i).state = .equalising
    · rw [State.sampleArrived_equalising bay state]
      refine ⟨rfl, fun hn => absurd hn hnone, fun c hc _ => ?_, fun c _ hh => by rw [state] at hh; cases hh⟩
      rw [hb c hc, s.bay_modBay]
      unfold Bay.sampled
      split
      · exact ⟨rfl, fun _ => ⟨rfl, rfl⟩⟩
      · exact ⟨rfl, fun room => absurd room ‹_›⟩
    · have held := h state
      rw [State.sampleArrived_held bay held]
      refine ⟨rfl, fun hn => absurd hn hnone, fun c _ he => absurd he state, fun c hc _ => ?_⟩
      rw [hb c hc]
      exact s.bay_modBay b fun r => { r with sample := .running s.site.sampleTimeout }

theorem StringState.charging_iff (x : StringState) : x.charging = true ↔ x = .equalising ∨ x = .held := by
  cases x <;> simp [StringState.charging]

theorem StringRec.integrate_fields (r : StringRec) (current : Int) (dt : Nat) :
    (r.integrate current dt).q = (if 0 < current then min (r.q + current.toNat * dt) (2 ^ 40 - 1) else r.q) ∧
      (r.integrate current dt).jobCharge = (if r.state = .equalising ∨ r.state = .held then
        (if 0 < current then min (r.jobCharge + current.toNat * dt) (2 ^ 40 - 1) else r.jobCharge) else r.jobCharge) ∧
      (r.integrate current dt).state = r.state ∧ (r.integrate current dt).bay = r.bay ∧ (r.integrate current dt).presence = r.presence := by
  unfold StringRec.integrate
  by_cases pos : 0 < current
  · simp only [if_pos pos, StringState.charging_iff]
    exact ⟨rfl, rfl, trivial, trivial, trivial⟩
  · simp only [if_neg pos, ite_self, and_self]

/-- Settles O52. -/
theorem stringReportIntegrated : Obligations.StringReportIntegrated := by
  intro s m i received volts string r t current dt added
  refine ⟨fun h => State.stringReported_ignored string h received volts, fun fitted sensor => ?_⟩
  have ht : t = ((s.reportTaken i current volts).heard i).sampleArrived i current := State.stringReported_applied string fitted sensor received volts
  have hdt : s.interval i = dt := rfl
  have hustr : (s.reportTaken i current volts).str i = { r.integrate current dt with
      lastArrival := some s.second, lastCurrent := current, lastVoltage := volts } :=
    s.str_modStr i fun r => { r.integrate current dt with
      lastArrival := some s.second, lastCurrent := current, lastVoltage := volts }
  have huother : ∀ j, j ≠ i → (s.reportTaken i current volts).str j = s.str j := fun j hj => s.str_modStr_ne i j _ hj
  have hubays : (s.reportTaken i current volts).bays = s.bays := rfl
  have husite : (s.reportTaken i current volts).site = s.site := rfl
  have hurest : (s.reportTaken i current volts).mgmt = s.mgmt ∧ (s.reportTaken i current volts).fp = s.fp := ⟨rfl, rfl⟩
  generalize s.reportTaken i current volts = u at ht hustr huother hubays husite hurest
  have hheard := u.heard_heard i
  generalize u.heard i = v at ht hheard
  have hsample := v.sampleArrived_heard i current
  rw [← ht] at hsample
  obtain ⟨hq, hcharge, hstate, hbay, hpresence⟩ := r.integrate_fields current dt
  have hvstr : v.str i = { r.integrate current dt with
      lastArrival := some s.second, lastCurrent := current, lastVoltage := volts, presence := .present } := by rw [hheard.str, hustr]
  have hvbays : v.bays = s.bays := hheard.bays.trans hubays
  have hvbay : ∀ b, v.bay b = s.bay b := fun b => by unfold State.bay; rw [hvbays]
  have hvsite : v.site = s.site := hheard.site.trans husite
  have hpres : (u.str i).presence = r.presence := by rw [hustr]; exact hpresence
  have hstr : ∀ j, t.str j = v.str j := fun j => by rw [hsample.eq]; rfl
  have hbayv : (v.str i).bay = r.bay := by rw [hvstr]; exact hbay
  have hstatev : (v.str i).state = r.state := by rw [hvstr]; exact hstate
  have hmgmt : t.mgmt = v.mgmt ∧ t.fp = v.fp := by rw [hsample.eq]; exact ⟨rfl, rfl⟩
  clear_value t
  refine ⟨?_, ?_, ?_, ?_, ?_, ?_, ?_, fun j hj => ?_, fun present => ?_, fun absent => ?_, fun b hw => ?_, fun b hw => ?_, fun none => ?_⟩
  · rw [hstr, hvstr]; exact hq
  · rw [hstr, hvstr]; exact hcharge
  · rw [hstr, hvstr]
  · rw [hstr, hvstr]
  · rw [hstr, hvstr]
  · rw [hstr, hvstr]
  · rw [hstr, hstatev]
  · rw [hstr, hheard.others j hj, huother j hj]
  · rw [hmgmt.1, hmgmt.2, hheard.same (hpres.trans present)]
    exact hurest
  · rw [hmgmt.1]
    exact hheard.posted (by rw [hpres]; exact absent)
  · have h := hsample.equalising b (hbayv.trans hw.named) (hstatev.trans hw.state)
    rw [hvsite, hvbay] at h
    exact h
  · have h := hsample.held b (hbayv.trans hw.named) (hstatev.trans hw.state)
    rw [hvsite, hvbay] at h
    exact h
  · rw [hsample.none (hbayv.trans none), hvbays]

end Sys2Proof.Machine
end

section
/-! PROOF. Samples, qualifiers, level readings and the answer to a sweep (R28, R31 to R34, R42, R67, R68). -/

namespace Sys2Proof.Machine

open Sys2Proof

/-! ## Samples (R28) -/

/-- Of the state, only cells differ. -/
structure CellsMove (s t : State) : Prop where
  eq : t = { s with strings := t.strings }
  str : ∀ j, t.str j = { s.str j with cells := (t.str j).cells }

theorem CellsMove.refl (s : State) : CellsMove s s := ⟨rfl, fun _ => rfl⟩

theorem CellsMove.trans {s t u : State} (h : CellsMove s t) (k : CellsMove t u) : CellsMove s u := by
  refine ⟨?_, fun j => ?_⟩
  · rw [k.eq, h.eq]
  · rw [k.str, h.str]

theorem CellsMove.modCell (s : State) (i : StringNo) (p : Position) (f : Cell → Cell) : CellsMove s (s.modCell i p f) := by
  refine ⟨rfl, fun j => ?_⟩
  unfold State.modCell
  by_cases hj : j = i
  · subst hj; rw [s.str_modStr]; rfl
  · rw [s.str_modStr_ne i j _ hj]

theorem State.applySample_cell (s : State) (i : StringNo) {pos : Nat} (h : pos < 32) (x : CellSample) (j : StringNo) (q : Position) :
    (s.applySample i pos x).cell j q = if j = i ∧ q.val = pos then
      (s.cell i q).takeSample x s.second (s.fittedPos i q) (s.str i).state.charging (s.profile i) else s.cell j q := by
  have heq : s.applySample i pos x = s.modCell i ⟨pos, h⟩ fun c =>
      c.takeSample x s.second (s.fittedPos i ⟨pos, h⟩) (s.str i).state.charging (s.profile i) := by
    unfold State.applySample
    rw [show indexOf? 32 pos = some ⟨pos, h⟩ from dif_pos h]
  rw [heq, State.cell_modCell]
  by_cases hq : j = i ∧ q.val = pos
  · obtain rfl : q = ⟨pos, h⟩ := Fin.ext hq.2
    rw [if_pos ⟨hq.1, rfl⟩, if_pos hq]
  · rw [if_neg fun hc => hq ⟨hc.1, congrArg Fin.val hc.2⟩, if_neg hq]

theorem CellsMove.applySample (s : State) (i : StringNo) (pos : Nat) (x : CellSample) : CellsMove s (s.applySample i pos x) := by
  unfold State.applySample
  split
  · exact .refl s
  · exact .modCell s i _ _

theorem CellsMove.applySamples (i : StringNo) : ∀ (l : List CellSample) (pos : Nat) (s : State), CellsMove s (s.applySamples i pos l)
  | [], _, s => .refl s
  | x :: l, pos, s => (CellsMove.applySample s i pos x).trans (.applySamples i l (pos + 1) _)

theorem CellsMove.second {s t : State} (h : CellsMove s t) : t.second = s.second := congrArg (·.clock.second) h.eq

theorem CellsMove.fittedPos {s t : State} (h : CellsMove s t) (i : StringNo) (p : Position) : t.fittedPos i p = s.fittedPos i p := by
  unfold State.fittedPos
  rw [h.str]

theorem CellsMove.state {s t : State} (h : CellsMove s t) (i : StringNo) : (t.str i).state = (s.str i).state := by rw [h.str]

theorem CellsMove.profile {s t : State} (h : CellsMove s t) (i : StringNo) : t.profile i = s.profile i := by
  have hp : t.profiles = s.profiles := (congrArg State.profiles h.eq).trans rfl
  have hc : (t.str i).cfg = (s.str i).cfg := by rw [h.str]
  unfold State.profile
  simp only [hp, hc]

/-- A sample is written to its own cell, and to no other. -/
theorem State.applySamples_cell (i : StringNo) : ∀ (l : List CellSample) (pos : Nat) (s : State), pos + l.length ≤ 32 →
    ∀ (j : StringNo) (q : Position),
      (¬(j = i ∧ pos ≤ q.val ∧ q.val < pos + l.length) → (s.applySamples i pos l).cell j q = s.cell j q) ∧
      (∀ x, j = i → pos ≤ q.val → l[q.val - pos]? = some x → (s.applySamples i pos l).cell j q =
        (s.cell i q).takeSample x s.second (s.fittedPos i q) (s.str i).state.charging (s.profile i))
  | [], _, s, _, j, q => ⟨fun _ => rfl, fun x _ _ h => by simp at h⟩
  | y :: l, pos, s, hle, j, q => by
    rw [List.length_cons] at hle ⊢
    have hmove := CellsMove.applySample s i pos y
    obtain ⟨hout, hin⟩ := State.applySamples_cell i l (pos + 1) (s.applySample i pos y) (by omega) j q
    have hfirst := s.applySample_cell i (pos := pos) (by omega) y j q
    show (¬_ → ((s.applySample i pos y).applySamples i (pos + 1) l).cell j q = _) ∧ _
    refine ⟨fun h => ?_, fun x hj hpos hx => ?_⟩
    · rw [hout (fun k => h ⟨k.1, by omega, by omega⟩), hfirst, if_neg fun k => h ⟨k.1, by omega, by omega⟩]
    · show ((s.applySample i pos y).applySamples i (pos + 1) l).cell j q = _
      by_cases hq : q.val = pos
      · rw [hq, Nat.sub_self, List.getElem?_cons_zero, Option.some.injEq] at hx
        rw [hout (fun k => by omega), hfirst, if_pos ⟨hj, hq⟩, hx]
      · have hx' : l[q.val - (pos + 1)]? = some x := by
          rw [← hx, show q.val - pos = (q.val - (pos + 1)) + 1 by omega, List.getElem?_cons_succ]
        have hcell : (s.applySample i pos y).cell i q = s.cell i q := by
          rw [s.applySample_cell i (by omega) y i q, if_neg fun k => hq k.2]
        rw [hin x hj (by omega) hx', hmove.second, hmove.fittedPos, hmove.state, hmove.profile, hcell]

theorem sampleIsFault_iff (x : CellSample) : sampleIsFault x = true ↔
    3000 < x.voltage.toNat ∨ x.tHalf.toInt < -80 ∨ 170 < x.tHalf.toInt ∨ x.status.getLsbD 0 = true := by
  simp only [sampleIsFault, statusFault, Bool.or_eq_true, decide_eq_true_eq, or_assoc]

/-- What a cell takes of a sample. -/
theorem Cell.takeSample_fields (c : Cell) (x : CellSample) (now : Nat) (fitted charging : Bool) (p : Profile) :
    let c' := c.takeSample x now fitted charging p
    c'.voltage = x.voltage.toNat ∧ c'.tHalf = x.tHalf.toInt ∧ c'.sampleSecond = some now ∧ c'.sampleFault = sampleIsFault x ∧
      c'.levelQ = c.levelQ ∧ c'.level = c.level ∧ c'.binding = c.binding ∧ c'.valveFault = c.valveFault ∧ c'.dispensed = c.dispensed ∧
      (sampleIsFault x = true ∨ fitted = false → c'.ov = c.ov ∧ c'.ot = c.ot) ∧
      (sampleIsFault x = false → fitted = true → c'.ot = c.ot.advance ((p.otLimit : Int) ≤ x.tHalf.toInt) ∧
        c'.ov = if charging then c.ov.advance (p.ovLimit ≤ x.voltage.toNat) else c.ov) := by
  unfold Cell.takeSample
  cases fault : sampleIsFault x <;> cases fitted <;> simp

/-! ## Qualifiers and levels (R31, R34) -/

theorem Qualifier.advance_agrees {q : Qualifier} {cond : Bool} (h : cond = q.state) : q.advance cond = { q with agree := 0 } := if_pos h

theorem Qualifier.advance_flips {q : Qualifier} {cond : Bool} (h : cond ≠ q.state) (count : q.agree = 2) :
    q.advance cond = { state := cond, agree := 0 } := (if_neg h).trans (if_pos (by omega))

theorem Qualifier.advance_counts {q : Qualifier} {cond : Bool} (h : cond ≠ q.state) (count : q.agree < 2) :
    q.advance cond = { q with agree := q.agree + 1 } := (if_neg h).trans (if_neg (by omega))

theorem Qualifier.flips_iff (q : Qualifier) (cond : Bool) : q.flips cond = true ↔ cond ≠ q.state ∧ q.agree = 2 := by
  unfold Qualifier.flips
  rw [Bool.and_eq_true, bne_iff_ne, beq_iff_eq]
  exact and_congr_right fun _ => by omega

theorem Cell.takeLevel_levelQ (c : Cell) (low : Bool) : (c.takeLevel low).levelQ = c.levelQ.advance low := by
  unfold Cell.takeLevel
  split
  · rfl
  · split <;> rfl

theorem Cell.takeLevel_flips {c : Cell} {low : Bool} (h : c.levelQ.flips low = true) : (c.takeLevel low).level = levelOfQ low := by
  unfold Cell.takeLevel
  rw [if_pos h]

theorem Cell.takeLevel_stays {c : Cell} {low : Bool} (flips : ¬c.levelQ.flips low = true)
    (h : ¬(low = c.levelQ.state ∧ (c.level = .unknown ∨ c.level = .fault))) : (c.takeLevel low).level = c.level := by
  unfold Cell.takeLevel
  rw [if_neg flips, if_neg h]

theorem Cell.takeLevel_agrees {c : Cell} {low : Bool} (h : low = c.levelQ.state ∧ (c.level = .unknown ∨ c.level = .fault)) :
    (c.takeLevel low).level = levelOfQ low := by
  have hflips : ¬c.levelQ.flips low = true := fun k => ((Qualifier.flips_iff _ _).1 k).1 h.1
  unfold Cell.takeLevel
  rw [if_neg hflips, if_pos h]

/-! ## The answer to a sweep (R42) -/

section
variable {s : State} {i : StringNo} {src : Byte} {l : List Owed} {timer : Timer}

theorem answers_iff (l : List Owed) (src : Byte) :
    (l.any fun o => o.addr = src && o.asked) = true ↔ ∃ o ∈ l, o.addr = src ∧ o.asked = true := by
  simp only [List.any_eq_true, Bool.and_eq_true, decide_eq_true_eq]

theorem State.answerSweep_idle (h : (s.str i).sweep = .idle) (src : Byte) : s.answerSweep i src = s := by
  unfold State.answerSweep
  rw [h]

theorem State.answerSweep_other (sweep : (s.str i).sweep = .sweeping l timer) (h : ¬∃ o ∈ l, o.addr = src ∧ o.asked = true) :
    s.answerSweep i src = s := by
  unfold State.answerSweep
  rw [sweep]
  exact if_neg fun k => h ((answers_iff l src).1 k)

theorem State.answerSweep_owing (sweep : (s.str i).sweep = .sweeping l timer) (h : ∃ o ∈ l, o.addr = src ∧ o.asked = true)
    (more : l.filter (·.addr ≠ src) ≠ []) :
    s.answerSweep i src = s.modStr i fun r => { r with sweep := .sweeping (l.filter (·.addr ≠ src)) timer } := by
  unfold State.answerSweep
  rw [sweep]
  refine (if_pos ((answers_iff l src).2 h)).trans ?_
  split
  · exact absurd ‹_› more
  · rfl

theorem State.answerSweep_last (sweep : (s.str i).sweep = .sweeping l timer) (h : ∃ o ∈ l, o.addr = src ∧ o.asked = true)
    (none : l.filter (·.addr ≠ src) = []) : s.answerSweep i src = s.completeSweep i := by
  unfold State.answerSweep
  rw [sweep]
  refine (if_pos ((answers_iff l src).2 h)).trans ?_
  rw [none]

end

/-- The string's sweep stopped, before its completion is told to EQ. -/
def State.sweepStopped (s : State) (i : StringNo) : State := s.modStr i fun r => { r with sweep := .idle }

theorem State.sweepStopped_str (s : State) (i : StringNo) : (s.sweepStopped i).str i = { s.str i with sweep := .idle } :=
  s.str_modStr i fun r => { r with sweep := .idle }

theorem State.sweepStopped_readings (s : State) (i : StringNo) : SameReadings i s (s.sweepStopped i) :=
  .modStr i (fun r => { r with sweep := .idle }) fun _ => ⟨rfl, rfl⟩

theorem SweepStep.completeSweep (s : State) (i : StringNo) : SweepStep i s (s.completeSweep i) :=
  (SweepStep.setSweep i s fun _ => .idle).trans (.sweepComplete i _)

theorem SweepStep.answerSweep (s : State) (i : StringNo) (src : Byte) : SweepStep i s (s.answerSweep i src) := by
  unfold State.answerSweep
  split
  · exact .refl i s
  · split
    · split
      · exact .completeSweep s i
      · exact .setSweep i s _
    · exact .refl i s

/-- The last answer in BASELINE begins the transfer. -/
theorem State.completeSweep_baseline {s : State} {i : StringNo} {b : BayNo} (hw : Working s b i .baseline) :
    ((s.completeSweep i).str i).state = .transferOut ∧ ((s.completeSweep i).bay b).startSpread = s.spreadOf i ∧
      ((s.completeSweep i).bay b).setpoint = s.setpointOf i ∧ ((s.completeSweep i).bay b).eqSetpoint = s.setpointOf i := by
  have h : Transferring (s.sweepStopped i) (s.completeSweep i) b i := State.sweepComplete_transfers
    (by rw [State.sweepStopped_str]; exact hw.state) (by rw [State.sweepStopped_str]; exact hw.named)
  have hreads := s.sweepStopped_readings i
  have hset := hreads.setpointOf fun _ => by rw [State.sweepStopped_str]
  exact ⟨h.state, h.startSpread.trans hreads.spreadOf, h.setpoint.trans hset, h.eqSetpoint.trans hset⟩

theorem State.completeSweep_ignored {s : State} {i : StringNo} (h : (s.str i).state ≠ .baseline) :
    s.completeSweep i = s.modStr i fun r => { r with sweep := .idle } :=
  State.sweepComplete_ignored (s := s.sweepStopped i)
    fun k => absurd ((congrArg StringRec.state (s.sweepStopped_str i)).symm.trans k) h

/-! ## Level reports (R34, R67, R68) -/

section
variable {s : State} {m : MapEntry} {i : StringNo}

theorem State.levelReported_unfitted (string : m.string = some i) {position : Nat} (h : (s.str i).cfg.cellCount ≤ position ∨ 32 ≤ position)
    (code : LevelCode) : s.levelReported m position code = s := by
  unfold State.levelReported
  rw [string]
  split
  · rename_i j p hj hp
    obtain rfl : i = j := Option.some.inj hj
    have hlt : position < 32 ∧ p.val = position := by
      unfold indexOf? at hp
      split at hp
      · exact ⟨‹_›, by cases hp; rfl⟩
      · cases hp
    have hfit : ¬s.fittedPos i p = true := by
      unfold State.fittedPos
      rw [decide_eq_true_eq]
      omega
    exact if_neg hfit
  · rfl

theorem State.levelReported_fault (string : m.string = some i) {p : Position} (fitted : p.val < (s.str i).cfg.cellCount) :
    s.levelReported m p.val .probeFault = s.modCell i p fun c => { c with level := .fault, levelQ := { c.levelQ with agree := 0 } } := by
  unfold State.levelReported
  rw [string, indexOf?_val]
  exact if_pos (decide_eq_true fitted)

theorem State.levelReported_reading (string : m.string = some i) {p : Position} (fitted : p.val < (s.str i).cfg.cellCount) (low : Bool) :
    s.levelReported m p.val (if low then .low else .ok) = s.levelReading i p low := by
  unfold State.levelReported
  rw [string, indexOf?_val]
  refine (if_pos (decide_eq_true fitted)).trans ?_
  cases low <;> rfl

end

/-- What a level reading calls for, besides the cell it writes. -/
structure LevelTold (s v t : State) (i : StringNo) (p : Position) (low : Bool) : Prop where
  eq : t = { v with requests := t.requests, evalDue := t.evalDue }
  due : t.evalDue = true ↔ s.evalDue = true ∨
    (((s.cell i p).levelQ.flips low = true ∧ low = true ∧ (s.str i).cfg.level ≠ 0) ∨
      ((s.cell i p).level = .fault ∧ ((s.cell i p).takeLevel low).level ≠ .fault))
  requests : t.requests = if (s.cell i p).levelQ.flips low = true then
      if low = true then if (s.str i).cfg.level = 0 then s.requests else raiseInto s.requests i .watering .level (s.str i).cfg.level s.second
      else (v.withdrawalCheck i).requests
    else s.requests

theorem State.levelReading_told (s : State) (i : StringNo) (p : Position) (low : Bool) :
    LevelTold s (s.modCell i p (·.takeLevel low)) (s.levelReading i p low) i p low := by
  set v := s.modCell i p (·.takeLevel low) with hv
  have hcell : v.cell i p = (s.cell i p).takeLevel low := by rw [hv, State.cell_modCell, if_pos ⟨rfl, rfl⟩]
  have hmove := CellsMove.modCell s i p (·.takeLevel low)
  have hcfg : (v.str i).cfg = (s.str i).cfg := by rw [hv, hmove.str]
  have hreq : v.requests = s.requests ∧ v.evalDue = s.evalDue ∧ v.second = s.second := ⟨rfl, rfl, rfl⟩
  set w := if (s.cell i p).levelQ.flips low then v.levelFlip i low else v with hw
  have hread : s.levelReading i p low = if (s.cell i p).level = .fault ∧ (w.cell i p).level ≠ .fault then w.trigger else w := rfl
  have hweq : w = { v with requests := w.requests, evalDue := w.evalDue } := by
    rw [hw]
    unfold State.levelFlip State.levelOkEvent State.autoRaise
    split
    · split
      · split <;> rfl
      · rw [State.withdrawalCheck_eq]
    · rfl
  have hwcell : (w.cell i p).level = ((s.cell i p).takeLevel low).level := by rw [← hcell, hweq]; rfl
  have hwdue : w.evalDue = true ↔ s.evalDue = true ∨ ((s.cell i p).levelQ.flips low = true ∧ low = true ∧ (s.str i).cfg.level ≠ 0) := by
    rw [hw]
    by_cases flips : (s.cell i p).levelQ.flips low = true
    · rw [if_pos flips]
      unfold State.levelFlip State.levelOkEvent State.autoRaise
      rw [hcfg]
      cases low with
      | false =>
        rw [if_neg Bool.false_ne_true, State.withdrawalCheck_eq]
        show v.evalDue = true ↔ _
        rw [hreq.2.1]
        simp
      | true =>
        rw [if_pos rfl]
        by_cases level : (s.str i).cfg.level = 0
        · rw [if_pos level, hreq.2.1]; simp [level]
        · rw [if_neg level]; simp [State.raise, State.trigger, level, flips]
    · rw [if_neg flips, hreq.2.1]; simp [flips]
  have hwreq : w.requests = if (s.cell i p).levelQ.flips low = true then
      if low = true then if (s.str i).cfg.level = 0 then s.requests else raiseInto s.requests i .watering .level (s.str i).cfg.level s.second
      else (v.withdrawalCheck i).requests
    else s.requests := by
    rw [hw]
    by_cases flips : (s.cell i p).levelQ.flips low = true
    · rw [if_pos flips, if_pos flips]
      unfold State.levelFlip State.levelOkEvent State.autoRaise
      rw [hcfg]
      cases low with
      | false => rw [if_neg Bool.false_ne_true, if_neg Bool.false_ne_true]
      | true =>
        rw [if_pos rfl, if_pos rfl]
        by_cases level : (s.str i).cfg.level = 0
        · rw [if_pos level, if_pos level]; exact hreq.1
        · rw [if_neg level, if_neg level]; rfl
    · rw [if_neg flips, if_neg flips]; exact hreq.1
  clear_value w
  rw [hread, hwcell]
  by_cases leaves : (s.cell i p).level = .fault ∧ ((s.cell i p).takeLevel low).level ≠ .fault
  · rw [if_pos leaves]
    exact ⟨congrArg State.trigger hweq, ⟨fun _ => .inr (.inr leaves), fun _ => rfl⟩, hwreq⟩
  · rw [if_neg leaves]
    refine ⟨hweq, hwdue.trans ?_, hwreq⟩
    exact or_congr_right (or_iff_left leaves).symm

end Sys2Proof.Machine
end

section
/-! PROOF. The flips of a cell report, in ascending order of position, and O51 (R28, R31 to R34, R42, R94, R98). -/

namespace Sys2Proof.Machine

open Sys2Proof

/-- The OV flip to set of position `p`, from picture `s` to picture `a`. -/
def SetsOv (s a : State) (i : StringNo) (p : Position) : Prop := (s.cell i p).ov.state = false ∧ (a.cell i p).ov.state = true
/-- The OT flip to set. -/
def SetsOt (s a : State) (i : StringNo) (p : Position) : Prop := (s.cell i p).ot.state = false ∧ (a.cell i p).ot.state = true
/-- The OT flip to clear. -/
def ClearsOt (s a : State) (i : StringNo) (p : Position) : Prop := (s.cell i p).ot.state = true ∧ (a.cell i p).ot.state = false

/-- The events of the positions of `l`, from picture `s`. -/
def State.cellsTold (t : State) (i : StringNo) (s : State) (l : List Position) : State :=
  l.foldl (fun t p => State.cellEvents i p s t) t

theorem State.cellReported_eq (s : State) {m : MapEntry} {i : StringNo} {first count : Nat} (string : m.string = some i)
    (block : m.block = some (first, count)) (samples : List CellSample) : s.cellReported m samples =
      ((s.applySamples i first (samples.take count)).cellsTold i s allPositions).answerSweep i m.addr := by
  unfold State.cellReported
  rw [string, block]
  rfl

/-! ## Events keep the cells and the evaluation that is due -/

/-- Every cell is as before, and an evaluation that was due is still due. -/
structure CellsKept (s t : State) : Prop where
  cells : ∀ j p, t.cell j p = s.cell j p
  due : s.evalDue = true → t.evalDue = true

theorem CellsKept.refl (s : State) : CellsKept s s := ⟨fun _ _ => rfl, id⟩

theorem CellsKept.trans {s t u : State} (h : CellsKept s t) (k : CellsKept t u) : CellsKept s u :=
  ⟨fun j p => (k.cells j p).trans (h.cells j p), k.due ∘ h.due⟩

theorem CellsKept.of_str {s t : State} (cells : ∀ j, (t.str j).cells = (s.str j).cells) (due : s.evalDue = true → t.evalDue = true) :
    CellsKept s t := by
  refine ⟨fun j p => ?_, due⟩
  unfold State.cell StringRec.cell
  rw [cells]

theorem CellsKept.trigger (s : State) : CellsKept s s.trigger := ⟨fun _ _ => rfl, fun _ => rfl⟩

theorem BackEnded.cellsKept {s t : State} {b : BayNo} {i : StringNo} {e : EndRec} (h : BackEnded s t b i e) : CellsKept s t := by
  refine .of_str (fun j => ?_) fun hd => by rw [h.eq]; exact hd
  by_cases hj : j = i
  · rw [hj, h.str]
  · rw [h.others j hj]

theorem StringRec.reported_cells (r : StringRec) (e : EndRec) (m : Nat) : (r.reported e m).cells = r.cells := by
  unfold StringRec.reported
  split
  · rfl
  · split <;> rfl

theorem BaseEnded.cellsKept {s t : State} {b : BayNo} {i : StringNo} {e : EndRec} {elapsed : Nat} (h : BaseEnded s t b i e elapsed) :
    CellsKept s t := by
  refine .of_str (fun j => ?_) fun _ => h.evalDue
  by_cases hj : j = i
  · rw [hj, h.str]; exact (s.str i).reported_cells e _
  · rw [h.others j hj]

theorem SweepStep.cellsKept {i : StringNo} {s t : State} (h : SweepStep i s t) : CellsKept s t := by
  refine .of_str (fun j => ?_) fun hd => by rw [h.eq]; exact hd
  by_cases hj : j = i
  · rw [hj, h.str]
  · rw [h.others j hj]

theorem CellsKept.endJob (s : State) (b : BayNo) (e : EndRec) : CellsKept s (s.endJob b e) := by
  unfold State.endJob
  split
  · exact .refl s
  · split
    · exact (s.endInBaseline_ends b _ e _).cellsKept
    · exact (s.endToTransferBack_ends b _ e).cellsKept
    · exact (s.endToTransferBack_ends b _ e).cellsKept
    · exact (s.endToTransferBack_ends b _ e).cellsKept
    · exact .refl s

theorem CellsKept.endStringJob (s : State) (i : StringNo) (cause : Cause) : CellsKept s (s.endStringJob i cause) := by
  unfold State.endStringJob
  split
  · exact .refl s
  · exact .endJob s _ _

/-! ## The events of one cell -/

section
variable (i : StringNo) (p : Position) (s u : State)

/-- The OV flip of a cell, told to EQ. -/
def State.ovTold : State :=
  if !(s.cell i p).ov.state && (u.cell i p).ov.state && (u.str i).state.charging then u.endStringJob i .cellOv else u

/-- The OT flip of a cell to set, told to EQ; `w` is the state EQ is in by then. -/
def State.otTold (w : State) : State :=
  if !(s.cell i p).ot.state && (u.cell i p).ot.state then w.endStringJob i .thermal else w

theorem State.cellEvents_eq : State.cellEvents i p s u =
    if (s.cell i p).ot.state && !(u.cell i p).ot.state then (State.otTold i p s u (State.ovTold i p s u)).trigger
    else State.otTold i p s u (State.ovTold i p s u) := rfl

variable {i p s u}

theorem State.ovTold_sets (h : SetsOv s u i p) (charging : (u.str i).state.charging = true) :
    State.ovTold i p s u = u.endStringJob i .cellOv := if_pos (by rw [h.1, h.2, charging]; rfl)

theorem State.ovTold_quiet (h : ¬SetsOv s u i p) : State.ovTold i p s u = u := if_neg fun k => h (by
  rw [Bool.and_eq_true, Bool.and_eq_true, Bool.not_eq_true'] at k
  exact k.1)

theorem State.otTold_sets (h : SetsOt s u i p) (w : State) : State.otTold i p s u w = w.endStringJob i .thermal :=
  if_pos (by rw [h.1, h.2]; rfl)

theorem State.otTold_quiet (h : ¬SetsOt s u i p) (w : State) : State.otTold i p s u w = w := if_neg fun k => h (by
  rw [Bool.and_eq_true, Bool.not_eq_true'] at k
  exact k)

theorem CellsKept.told : CellsKept u (State.otTold i p s u (State.ovTold i p s u)) := by
  have hov : CellsKept u (State.ovTold i p s u) := by
    unfold State.ovTold
    split
    · exact .endStringJob u i .cellOv
    · exact .refl u
  refine hov.trans ?_
  generalize State.ovTold i p s u = w
  unfold State.otTold
  split
  · exact .endStringJob w i .thermal
  · exact .refl w

theorem CellsKept.cellEvents : CellsKept u (State.cellEvents i p s u) := by
  rw [State.cellEvents_eq]
  split
  · exact CellsKept.told.trans (.trigger _)
  · exact .told

theorem State.cellEvents_clears (h : ClearsOt s u i p) : (State.cellEvents i p s u).evalDue = true := by
  rw [State.cellEvents_eq, if_pos (by rw [h.1, h.2]; rfl)]
  rfl

end

/-! ## Events that end nothing only call for an evaluation -/

/-- Only an evaluation has been called for, and that only if `P` holds. -/
def Calls (P : Prop) (s t : State) : Prop := t = s ∨ P ∧ t = s.trigger

theorem Calls.trans {P : Prop} {s t u : State} (h : Calls P s t) (k : Calls P t u) : Calls P s u := by
  obtain rfl | ⟨hP, rfl⟩ := h
  · exact k
  · obtain rfl | ⟨-, rfl⟩ := k
    · exact .inr ⟨hP, rfl⟩
    · exact .inr ⟨hP, rfl⟩

theorem Calls.mono {P Q : Prop} {s t : State} (h : Calls P s t) (k : P → Q) : Calls Q s t := h.imp_right (And.imp_left k)

theorem Calls.eq_of_not {P : Prop} {s t : State} (h : Calls P s t) (hP : ¬P) : t = s := h.resolve_right fun k => hP k.1

theorem Calls.eq {P : Prop} {s t : State} (h : Calls P s t) : t = { s with evalDue := t.evalDue } := by
  obtain rfl | ⟨-, rfl⟩ := h <;> rfl

/-- No event of string `i` ends a job: the string has no bay, or its job has ended already. -/
def NoJobEnds (s : State) (i : StringNo) : Prop :=
  (s.str i).bay = none ∨ ∃ b, (s.str i).bay = some b ∧ (s.bay b).string = some i ∧ (s.str i).state = .transferBack

theorem NoJobEnds.endStringJob {s : State} {i : StringNo} (h : NoJobEnds s i) (cause : Cause) : s.endStringJob i cause = s := by
  obtain hnone | ⟨b, hbay, names, hstate⟩ := h
  · unfold State.endStringJob
    rw [hnone]
  · rw [State.endStringJob_of_bay hbay, State.endJob_ignored names (by rw [hstate]; decide)]

theorem NoJobEnds.calls {P : Prop} {s t : State} {i : StringNo} (h : NoJobEnds s i) (k : Calls P s t) : NoJobEnds t i := by
  obtain rfl | ⟨-, rfl⟩ := k <;> exact h

section
variable {i : StringNo} {p : Position} {s u : State}

/-- What is told after the two flips to set of a cell. -/
theorem State.cellEvents_calls : Calls (ClearsOt s u i p) (State.otTold i p s u (State.ovTold i p s u)) (State.cellEvents i p s u) := by
  rw [State.cellEvents_eq]
  split
  · rename_i h
    rw [Bool.and_eq_true, Bool.not_eq_true'] at h
    exact .inr ⟨h, rfl⟩
  · exact .inl rfl

theorem Calls.plain (ov : ¬SetsOv s u i p) (ot : ¬SetsOt s u i p) : Calls (ClearsOt s u i p) u (State.cellEvents i p s u) := by
  have h : Calls (ClearsOt s u i p) _ _ := State.cellEvents_calls
  rw [State.ovTold_quiet ov, State.otTold_quiet ot] at h
  exact h

theorem Calls.ignored (h : NoJobEnds u i) : Calls (ClearsOt s u i p) u (State.cellEvents i p s u) := by
  have hov : State.ovTold i p s u = u := by
    unfold State.ovTold
    rw [h.endStringJob, ite_self]
  have hot : State.otTold i p s u u = u := by
    unfold State.otTold
    rw [h.endStringJob, ite_self]
  have k : Calls (ClearsOt s u i p) _ _ := State.cellEvents_calls
  rw [hov, hot] at k
  exact k

end

/-! ## The events of all cells -/

section
variable {i : StringNo} {s : State}

theorem CellsKept.cellsTold : ∀ (l : List Position) (u : State), CellsKept u (u.cellsTold i s l)
  | [], u => .refl u
  | _ :: l, _ => CellsKept.cellEvents.trans (CellsKept.cellsTold l _)

theorem State.cellsTold_append (u : State) (l k : List Position) : u.cellsTold i s (l ++ k) = (u.cellsTold i s l).cellsTold i s k :=
  List.foldl_append

/-- Whether a position flips is read off the cells alone. -/
theorem CellsKept.flips {u v : State} (h : CellsKept u v) (p : Position) : (SetsOv s v i p ↔ SetsOv s u i p) ∧
    (SetsOt s v i p ↔ SetsOt s u i p) ∧ (ClearsOt s v i p ↔ ClearsOt s u i p) := by
  unfold SetsOv SetsOt ClearsOt
  rw [h.cells]
  exact ⟨.rfl, .rfl, .rfl⟩

/-- An OT flip to clear calls for an evaluation, whatever else is told. -/
theorem State.cellsTold_clears {p : Position} (l : List Position) (u : State) (hp : p ∈ l) (hc : ClearsOt s u i p) :
    (u.cellsTold i s l).evalDue = true := by
  induction l generalizing u with
  | nil => exact absurd hp List.not_mem_nil
  | cons q l ih =>
    have hkept : CellsKept u (State.cellEvents i q s u) := CellsKept.cellEvents
    show ((State.cellEvents i q s u).cellsTold i s l).evalDue = true
    obtain rfl | hp := List.mem_cons.1 hp
    · exact (CellsKept.cellsTold l _).due (State.cellEvents_clears hc)
    · generalize State.cellEvents i q s u = v at hkept
      exact ih v hp ((hkept.flips p).2.2.2 hc)

/-- Positions that set nothing end no job. -/
theorem Calls.cellsPlain (l : List Position) (u : State) (h : ∀ p ∈ l, ¬SetsOv s u i p ∧ ¬SetsOt s u i p) :
    Calls (∃ p, ClearsOt s u i p) u (u.cellsTold i s l) := by
  induction l generalizing u with
  | nil => exact .inl rfl
  | cons q l ih =>
    have hkept : CellsKept u (State.cellEvents i q s u) := CellsKept.cellEvents
    obtain ⟨hov, hot⟩ := h q List.mem_cons_self
    have hfirst : Calls (ClearsOt s u i q) u (State.cellEvents i q s u) := Calls.plain hov hot
    show Calls _ u ((State.cellEvents i q s u).cellsTold i s l)
    generalize State.cellEvents i q s u = v at hkept hfirst
    have hrest := ih v fun p hp => by
      rw [(hkept.flips p).1, (hkept.flips p).2.1]
      exact h p (List.mem_cons_of_mem q hp)
    exact (hfirst.mono fun k => ⟨q, k⟩).trans (hrest.mono fun ⟨p, k⟩ => ⟨p, (hkept.flips p).2.2.1 k⟩)

/-- Where no job can end, none ends. -/
theorem Calls.cellsIgnored (l : List Position) (u : State) (h : NoJobEnds u i) :
    Calls (∃ p, ClearsOt s u i p) u (u.cellsTold i s l) := by
  induction l generalizing u with
  | nil => exact .inl rfl
  | cons q l ih =>
    have hkept : CellsKept u (State.cellEvents i q s u) := CellsKept.cellEvents
    have hfirst : Calls (ClearsOt s u i q) u (State.cellEvents i q s u) := Calls.ignored h
    show Calls _ u ((State.cellEvents i q s u).cellsTold i s l)
    generalize State.cellEvents i q s u = v at hkept hfirst
    exact (hfirst.mono fun k => ⟨q, k⟩).trans ((ih v (h.calls hfirst)).mono fun ⟨p, k⟩ => ⟨p, (hkept.flips p).2.2.1 k⟩)

end

/-! ## The first flip to set ends the job (R94, R98) -/

/-- The cause with which the flips to set of position `p` end a job. -/
def FirstCause (s a : State) (i : StringNo) (p : Position) (cause : Cause) : Prop :=
  (SetsOv s a i p ∧ cause = .cellOv) ∨ (¬SetsOv s a i p ∧ cause = .thermal)

section
variable {s a t v : State} {b : BayNo} {i : StringNo} {p : Position} {st : StringState} {cause : Cause}

theorem Working.calls {P : Prop} (hw : Working a b i st) (h : Calls P a t) : Working t b i st := by
  obtain rfl | ⟨-, rfl⟩ := h <;> exact ⟨hw.busy, hw.names, hw.named, hw.state⟩

theorem Working.cellsMove (hw : Working s b i st) (h : CellsMove s a) : Working a b i st := by
  have hbays : a.bays = s.bays := (congrArg State.bays h.eq).trans rfl
  have hbay : a.bay b = s.bay b := by unfold State.bay; rw [hbays]
  have hnamed : (a.str i).bay = (s.str i).bay := by rw [h.str]
  exact ⟨by rw [hbay]; exact hw.busy, by rw [hbay]; exact hw.names, hnamed.trans hw.named, (h.state i).trans hw.state⟩

theorem Working.endStringJob (hw : Working a b i st) (cause : Cause) : a.endStringJob i cause = a.endJob b ⟨.abnormal, cause⟩ :=
  State.endStringJob_of_bay hw.named cause

/-- Once the job of `i` has ended with its cause, the thermal flip of the same cell ends nothing more. -/
theorem State.told_ends (first : SetsOv s a i p ∨ SetsOt s a i p) (charging : SetsOv s a i p → (a.str i).state.charging = true)
    (ends : ∀ cause, NoJobEnds (a.endStringJob i cause) i) :
    ∃ cause, FirstCause s a i p cause ∧ State.otTold i p s a (State.ovTold i p s a) = a.endStringJob i cause := by
  by_cases ov : SetsOv s a i p
  · refine ⟨.cellOv, .inl ⟨ov, rfl⟩, ?_⟩
    rw [State.ovTold_sets ov (charging ov)]
    unfold State.otTold
    rw [(ends .cellOv).endStringJob, ite_self]
  · refine ⟨.thermal, .inr ⟨ov, rfl⟩, ?_⟩
    rw [State.ovTold_quiet ov, State.otTold_sets (first.resolve_left ov)]

/-- The events of a report of which `p` is the first position to set: before it and after it only evaluations are called for. -/
theorem State.cellsTold_first (first : SetsOv s a i p ∨ SetsOt s a i p) (before : ∀ q, q < p → ¬SetsOv s a i q ∧ ¬SetsOt s a i q)
    (charging : SetsOv s a i p → (a.str i).state.charging = true)
    (ends : ∀ u, Calls True a u → ∀ cause, NoJobEnds (u.endStringJob i cause) i) :
    ∃ u cause, Calls True a u ∧ FirstCause s a i p cause ∧ Calls True (u.endStringJob i cause) (a.cellsTold i s allPositions) := by
  obtain ⟨l, k, hl⟩ := List.append_of_mem (mem_allPositions p)
  have hsorted := allPositions_sorted
  rw [hl, List.pairwise_append] at hsorted
  have hplain : Calls (∃ q, ClearsOt s a i q) a (a.cellsTold i s l) :=
    .cellsPlain l a fun q hq => before q (hsorted.2.2 q hq p List.mem_cons_self)
  have hkept : CellsKept a (a.cellsTold i s l) := CellsKept.cellsTold l a
  generalize hu : a.cellsTold i s l = u at hplain hkept
  have hcalls : Calls True a u := hplain.mono fun _ => trivial
  obtain ⟨hov, hot, -⟩ := hkept.flips (s := s) (i := i) p
  have hstr : u.str i = a.str i := by rw [hcalls.eq]; rfl
  obtain ⟨cause, hcause, htold⟩ := State.told_ends (a := u) (first.imp hov.2 hot.2)
    (fun h => by rw [hstr]; exact charging (hov.1 h)) (ends u hcalls)
  have hat : Calls (ClearsOt s u i p) _ _ := State.cellEvents_calls
  rw [htold] at hat
  have hcalm : NoJobEnds (State.cellEvents i p s u) i := (ends u hcalls cause).calls hat
  refine ⟨u, cause, hcalls, ?_, ?_⟩
  · unfold FirstCause at hcause ⊢
    rwa [hov] at hcause
  · rw [hl, State.cellsTold_append, hu]
    exact (hat.mono fun _ => trivial).trans ((Calls.cellsIgnored k _ hcalm).mono fun _ => trivial)

/-- An end in BASELINE leaves nothing to end. -/
theorem BaseEnded.noJobEnds {e : EndRec} {elapsed : Nat} (h : BaseEnded a t b i e elapsed) : NoJobEnds t i := .inl (by rw [h.str])

/-- A job in TRANSFER_BACK has its end. -/
theorem BackEnded.noJobEnds {e : EndRec} (h : BackEnded a t b i e) (hw : Working a b i st) : NoJobEnds t i := by
  refine .inr ⟨b, ?_, ?_, by rw [h.str]⟩
  · rw [h.str]; exact hw.named
  · rw [h.bay]; exact hw.names

/-- Where the end of a job and what is called for leaves the string and the bay. -/
theorem Calls.fields {P : Prop} (h : Calls P s t) : t.str i = s.str i ∧ t.bay b = s.bay b ∧ (s.evalDue = true → t.evalDue = true) := by
  obtain rfl | ⟨-, rfl⟩ := h
  · exact ⟨rfl, rfl, id⟩
  · exact ⟨rfl, rfl, fun _ => rfl⟩

/-- A sweep answered by a string that is not in BASELINE. -/
theorem SweepStep.after (h : SweepStep i s t) (state : (s.str i).state ≠ .baseline) :
    (t.str i).state = (s.str i).state ∧ t.bay b = s.bay b := by
  refine ⟨h.state.resolve_right fun k => state k.1, ?_⟩
  unfold State.bay
  rw [(h.ignored state).1]

/-- What the obligations ask of an end in BASELINE, read past what only calls for an evaluation and past an ignored sweep. -/
theorem EndsInBaseline.transport {P : Prop} {w : State} {u : State} {e : EndRec} (h : EndsInBaseline u v b i e) (hu : Calls P a u)
    (hv : Calls P v w) (ht : SweepStep i w t) : EndsInBaseline a t b i e := by
  obtain ⟨hstr, hbay, -⟩ := hv.fields (i := i) (b := b)
  obtain ⟨hstate, hbayT⟩ := ht.after (b := b) (by rw [hstr, h.float]; decide)
  have hw : w.holds = v.holds ∧ w.gas = v.gas ∧ w.mgmt = v.mgmt := by rw [hv.eq]; exact ⟨rfl, rfl, rfl⟩
  have hholds : t.holds = v.holds := by rw [ht.eq]; exact hw.1
  have hgas : t.gas = v.gas := by rw [ht.eq]; exact hw.2.1
  have hmgmt : t.mgmt = v.mgmt := by rw [ht.eq]; exact hw.2.2
  have hua : EndsInBaseline a v b i e := by
    obtain rfl | ⟨-, rfl⟩ := hu
    · exact h
    · exact ⟨h.float, h.unbound, h.free, h.switchHold, h.chargerHold, h.kept, h.counted, h.posted⟩
  exact ⟨by rw [hstate, hstr]; exact hua.float, by rw [ht.bayField, hstr]; exact hua.unbound, by rw [hbayT, hbay]; exact hua.free,
    by rw [hholds]; exact hua.switchHold, by rw [hholds]; exact hua.chargerHold, by rw [hholds]; exact hua.kept,
    by rw [hgas]; exact hua.counted, by rw [hmgmt]; exact hua.posted⟩

end

end Sys2Proof.Machine
end

section
/-! PROOF. O51 (R28, R31 to R34, R42, R67, R68, R94, R98). -/

namespace Sys2Proof.Machine

open Sys2Proof

/-! ## A cell report (R28, R42) -/

section
variable {s : State} {m : MapEntry} {i : StringNo} {first count : Nat}

/-- Outside EQUALISING and HELD a report moves no OV qualifier. -/
theorem State.applySamples_ov {l : List CellSample} (h : first + l.length ≤ 32) (charging : (s.str i).state.charging = false)
    (p : Position) : ¬SetsOv s (s.applySamples i first l) i p := by
  have hov : ((s.applySamples i first l).cell i p).ov = (s.cell i p).ov := by
    obtain ⟨hout, hin⟩ := State.applySamples_cell i l first s h i p
    by_cases hp : first ≤ p.val ∧ p.val < first + l.length
    · have hx : l[p.val - first]? = some l[p.val - first] := List.getElem?_eq_getElem (by omega)
      obtain ⟨-, -, -, -, -, -, -, -, -, hkeeps, htakes⟩ := Cell.takeSample_fields (s.cell i p) l[p.val - first] s.second
        (s.fittedPos i p) (s.str i).state.charging (s.profile i)
      rw [hin _ rfl hp.1 hx]
      by_cases hbad : sampleIsFault l[p.val - first] = true ∨ s.fittedPos i p = false
      · exact (hkeeps hbad).1
      · rw [not_or, Bool.not_eq_true, Bool.not_eq_false] at hbad
        rw [(htakes hbad.1 hbad.2).2, charging]
        rfl
    · rw [hout fun k => hp k.2]
  intro k
  obtain ⟨hwas, hnow⟩ := k
  rw [hov, hwas] at hnow
  cases hnow

/-- The first position that sets, and the charging it needs for an OV flip. -/
structure FirstSet (s a : State) (i : StringNo) (p : Position) : Prop where
  sets : SetsOv s a i p ∨ SetsOt s a i p
  before : ∀ q, q < p → ¬SetsOv s a i q ∧ ¬SetsOt s a i q
  charging : SetsOv s a i p → (a.str i).state.charging = true

section
variable {a : State} {b : BayNo} {p : Position} {st : StringState}

/-- A job in EQUALISING, HELD or TRANSFER_OUT ends at the first position that sets, with the cause of its first flip. -/
theorem FirstSet.back (h : FirstSet s a i p) (hw : Working a b i st) (hst : st ∈ [StringState.transferOut, .equalising, .held]) :
    ∃ cause, FirstCause s a i p cause ∧ ((a.cellsTold i s allPositions).str i).state = .transferBack ∧
      ((a.cellsTold i s allPositions).bay b).ended = some ⟨.abnormal, cause⟩ := by
  have hends : ∀ u, Calls True a u → ∀ cause, BackEnded u (u.endStringJob i cause) b i ⟨.abnormal, cause⟩ := fun u hu cause => by
    have hwu := hw.calls hu
    rw [hwu.endStringJob, State.endJob_back hwu.names hwu.state hst]
    exact u.endToTransferBack_ends b i _
  obtain ⟨u, cause, hu, hcause, htold⟩ := State.cellsTold_first h.sets h.before h.charging fun u hu cause =>
    (hends u hu cause).noJobEnds (hw.calls hu)
  obtain ⟨hstr, hbay, -⟩ := htold.fields (i := i) (b := b)
  have hend := hends u hu cause
  exact ⟨cause, hcause, by rw [hstr, hend.str], by rw [hbay, hend.bay]⟩

/-- A job in BASELINE ends at once. -/
theorem FirstSet.baseline (h : FirstSet s a i p) (hw : Working a b i .baseline) : ∃ u v, Calls True a u ∧
    BaseEnded u v b i ⟨.abnormal, .thermal⟩ (u.elapsed (u.str i).startMinute) ∧ Calls True v (a.cellsTold i s allPositions) := by
  have hends : ∀ u, Calls True a u → ∀ cause,
      BaseEnded u (u.endStringJob i cause) b i ⟨.abnormal, cause⟩ (u.elapsed (u.str i).startMinute) := fun u hu cause => by
    have hwu := hw.calls hu
    rw [hwu.endStringJob, State.endJob_baseline hwu.names hwu.state]
    exact u.endInBaseline_ends b i _ _
  obtain ⟨u, cause, hu, hcause, htold⟩ := State.cellsTold_first h.sets h.before h.charging fun u hu cause =>
    (hends u hu cause).noJobEnds
  have hnocharge : ¬SetsOv s a i p := fun k => absurd (h.charging k) (by rw [hw.state]; decide)
  obtain rfl : cause = .thermal := (hcause.resolve_left fun k => hnocharge k.1).2
  exact ⟨u, _, hu, hends u hu .thermal, htold⟩

end

/-- A cell report, flip by flip (R28, R42, R94, R98). -/
theorem State.cellReported_told (s : State) (m : MapEntry) (samples : List CellSample) (i : StringNo) (first count : Nat)
    (string : m.string = some i) (block : m.block = some (first, count)) (fits : first + count ≤ 32) :
    let a := s.applySamples i first (samples.take count)
    let t := s.cellReported m samples
    (∀ j p, t.cell j p = a.cell j p) ∧ ((∃ p, ClearsOt s a i p) → t.evalDue = true) ∧
    ((∀ p, ¬SetsOv s a i p ∧ ¬SetsOt s a i p ∧ ¬ClearsOt s a i p) → t = a.answerSweep i m.addr) ∧
    ((s.str i).bay = none → (∀ p, ¬ClearsOt s a i p) → t = a.answerSweep i m.addr) ∧
    (∀ b p, SetsOv s a i p ∨ SetsOt s a i p → (∀ q, q < p → ¬SetsOv s a i q ∧ ¬SetsOt s a i q) →
      (Working s b i .equalising ∨ Working s b i .held ∨ Working s b i .transferOut →
        (t.str i).state = .transferBack ∧ ((SetsOv s a i p ∧ (t.bay b).ended = some ⟨.abnormal, .cellOv⟩) ∨
          (¬SetsOv s a i p ∧ (t.bay b).ended = some ⟨.abnormal, .thermal⟩))) ∧
      (Working s b i .baseline → EndsInBaseline a t b i ⟨.abnormal, .thermal⟩ ∧ t.evalDue = true ∧
        (t.str i).retryHold = some (s.minute + 60 * (s.profile i).retryDelay)) ∧
      (Working s b i .transferBack → (t.str i).state = .transferBack ∧ t.bay b = s.bay b)) := by
  intro a t
  have ht : t = (a.cellsTold i s allPositions).answerSweep i m.addr := s.cellReported_eq string block samples
  have hmove : CellsMove s a := .applySamples i _ first s
  have hov : (s.str i).state.charging = false → ∀ p, ¬SetsOv s a i p := fun h =>
    State.applySamples_ov (by rw [List.length_take]; omega) h
  clear_value a t
  have hsweep : SweepStep i (a.cellsTold i s allPositions) t := by rw [ht]; exact .answerSweep _ i _
  have hkept : CellsKept a (a.cellsTold i s allPositions) := .cellsTold _ a
  have hminute : a.minute = s.minute := congrArg (· / 60) hmove.second
  refine ⟨(hkept.trans hsweep.cellsKept).cells, fun ⟨p, hp⟩ =>
    hsweep.cellsKept.due (State.cellsTold_clears _ a (mem_allPositions p) hp), fun hnone => ?_, fun hbay hclear => ?_,
    fun b p hsets hbefore => ?_⟩
  · rw [ht, (Calls.cellsPlain (i := i) allPositions a fun p _ => ⟨(hnone p).1, (hnone p).2.1⟩).eq_of_not fun ⟨p, hp⟩ =>
      (hnone p).2.2 hp]
  · rw [ht, (Calls.cellsIgnored (i := i) allPositions a (.inl (by rw [hmove.str]; exact hbay))).eq_of_not fun ⟨p, hp⟩ => hclear p hp]
  have hfirst : FirstSet s a i p := ⟨hsets, hbefore, fun k => by
    rw [hmove.state, ← Bool.not_eq_false]
    exact fun h => hov h p k⟩
  clear ht hkept
  refine ⟨fun hjob => ?_, fun hw => ?_, fun hw => ?_⟩
  · have hback : ∃ st ∈ [StringState.transferOut, .equalising, .held], Working s b i st := by
      obtain h | h | h := hjob
      · exact ⟨_, by simp, h⟩
      · exact ⟨_, by simp, h⟩
      · exact ⟨_, by simp, h⟩
    obtain ⟨st, hst, hw⟩ := hback
    obtain ⟨cause, hcause, hstate, hended⟩ := hfirst.back (hw.cellsMove hmove) hst
    obtain ⟨hsame, hbay⟩ := hsweep.after (b := b) (by rw [hstate]; decide)
    rw [hsame, hbay, hended]
    refine ⟨hstate, ?_⟩
    obtain ⟨hset, rfl⟩ | ⟨hset, rfl⟩ := hcause
    · exact .inl ⟨hset, rfl⟩
    · exact .inr ⟨hset, rfl⟩
  · obtain ⟨u, v, hu, hend, htold⟩ := hfirst.baseline (hw.cellsMove hmove)
    obtain ⟨hstr, -, hdue⟩ := htold.fields (i := i) (b := b)
    refine ⟨hend.endsInBaseline.transport hu htold hsweep, hsweep.cellsKept.due (hdue hend.evalDue), ?_⟩
    have hretry := hend.retryHold nofun nofun nofun
    have hprofile : u.profile i = s.profile i := by
      rw [hu.eq]
      exact hmove.profile i
    have hum : u.minute = s.minute := by
      rw [hu.eq]
      exact hminute
    rw [hsweep.str]
    show (_ : StringRec).retryHold = _
    rw [hstr, hretry, hprofile, hum]
  · have hcalls : Calls _ a (a.cellsTold i s allPositions) := .cellsIgnored (s := s) (i := i) allPositions a
      (.inr ⟨b, (hw.cellsMove hmove).named, (hw.cellsMove hmove).names, (hw.cellsMove hmove).state⟩)
    obtain ⟨hstr, hbay, -⟩ := hcalls.fields (i := i) (b := b)
    have hback : (a.str i).state = .transferBack := (hw.cellsMove hmove).state
    obtain ⟨hsame, hbayT⟩ := hsweep.after (b := b) (by rw [hstr, hback]; decide)
    have hbays : a.bay b = s.bay b := by
      have hbs : a.bays = s.bays := (congrArg State.bays hmove.eq).trans rfl
      unfold State.bay
      rw [hbs]
    exact ⟨by rw [hsame, hstr, hback], hbayT.trans (hbay.trans hbays)⟩

end

/-! ## A level report (R34, R67, R68) -/

/-- A level reading of a fitted position: its cell, the raise, the withdrawal and the evaluation. -/
theorem State.levelReading_effects (s : State) (i : StringNo) (p : Position) (low : Bool) :
    let c := s.cell i p
    let t := s.levelReading i p low
    let v := s.modCell i p (·.takeLevel low)
    let flips := low ≠ c.levelQ.state ∧ c.levelQ.agree = 2
    let leaves := c.level = .fault ∧ (c.takeLevel low).level ≠ .fault
    let raises := flips ∧ low = true ∧ (s.str i).cfg.level ≠ 0
    let withdraws := flips ∧ low = false ∧ ∀ q : Position, q.val < (s.str i).cfg.cellCount → (v.cell i q).level ≠ .low
    t = { v with requests := t.requests, evalDue := t.evalDue } ∧
    (t.evalDue = true ↔ s.evalDue = true ∨ raises ∨ leaves) ∧
    (raises → t.requests = raiseInto s.requests i .watering .level (s.str i).cfg.level s.second) ∧
    (withdraws → t.requests = s.requests.filter fun e =>
      !(e.string = i && e.kind = .watering && e.sources = { level := true })) ∧
    (¬raises → ¬withdraws → t.requests = s.requests) := by
  intro c t v flips leaves raises withdraws
  have h : LevelTold s v t i p low := s.levelReading_told i p low
  have hflips : (s.cell i p).levelQ.flips low = true ↔ flips := Qualifier.flips_iff _ _
  have hcfg : (v.str i).cfg = (s.str i).cfg := by rw [(CellsMove.modCell s i p (·.takeLevel low)).str]
  have hlow : v.anyLow i = false ↔ ∀ q : Position, q.val < (s.str i).cfg.cellCount → (v.cell i q).level ≠ .low := by
    rw [State.anyLow_eq_false, hcfg]
  have hwithdrawal : (v.withdrawalCheck i).requests = if v.anyLow i then s.requests else s.requests.filter (!·.levelOnly i) :=
    v.withdrawalCheck_requests i
  have hrequests := h.requests
  have hdue := h.due
  rw [hflips] at hdue
  refine ⟨h.eq, hdue, fun hr => ?_, fun hwd => ?_, fun hr hwd => ?_⟩
  · rw [hrequests, if_pos (hflips.2 hr.1), if_pos hr.2.1, if_neg hr.2.2]
  · rw [hrequests, if_pos (hflips.2 hwd.1), hwd.2.1, if_neg Bool.false_ne_true, hwithdrawal, hlow.2 hwd.2.2]
    rfl
  · rw [hrequests]
    split
    · rename_i hf
      cases hl : low with
      | true =>
        rw [if_pos rfl]
        exact ite_eq_left_iff.2 fun hlevel => absurd ⟨hflips.1 hf, hl, hlevel⟩ hr
      | false =>
        rw [if_neg Bool.false_ne_true, hwithdrawal]
        refine ite_eq_left_iff.2 fun hany => absurd ⟨hflips.1 hf, hl, hlow.1 (Bool.eq_false_iff.2 hany)⟩ hwd
    · rfl

/-- Settles O51. -/
theorem cellSamplesWritten : Obligations.CellSamplesWritten := by
  refine ⟨fun s i first samples hfits p => ?_, fun q cond => ⟨Qualifier.advance_agrees, Qualifier.advance_flips, Qualifier.advance_counts⟩,
    fun c low => ⟨c.takeLevel_levelQ low, fun hne hagree => ?_, fun hne hagree => ?_, fun heq => ?_⟩,
    State.cellReported_told, fun s i src l timer hsweep => ⟨State.answerSweep_other hsweep, State.answerSweep_owing hsweep,
      fun hanswers hlast => ?_⟩,
    fun s i src hidle => State.answerSweep_idle hidle src,
    fun s m i position code hstring => ⟨fun h => State.levelReported_unfitted hstring h code, fun p hp hfitted => ?_⟩⟩
  · obtain ⟨hout, hin⟩ := State.applySamples_cell i samples first s hfits i p
    refine ⟨fun h => hout fun k => by omega, fun x hpos hx => ?_⟩
    obtain ⟨hvoltage, ht, hsecond, hfault, hlevelQ, hlevel, hbinding, hvalve, hdispensed, hkeeps, htakes⟩ :=
      Cell.takeSample_fields (s.cell i p) x s.second (s.fittedPos i p) (s.str i).state.charging (s.profile i)
    dsimp only
    rw [hin x rfl hpos hx]
    have hbad := sampleIsFault_iff x
    have hcharging := StringState.charging_iff (s.str i).state
    refine ⟨hvoltage, ht, hsecond, by rw [hfault]; exact hbad, hlevelQ, hlevel, hbinding, hvalve, hdispensed, fun h => ?_,
      fun hgood hfit => ?_⟩
    · exact hkeeps (h.imp hbad.2 fun k => decide_eq_false (not_lt.2 k))
    · obtain ⟨hot, hov⟩ := htakes (by rw [← Bool.not_eq_true, hbad]; exact hgood) (decide_eq_true hfit)
      refine ⟨hot, fun h => ?_, fun h => ?_⟩
      · rw [hov, if_pos (hcharging.2 h)]
      · rw [hov, if_neg fun k => h (hcharging.1 k)]
  · exact Cell.takeLevel_flips ((Qualifier.flips_iff _ _).2 ⟨hne, hagree⟩)
  · refine Cell.takeLevel_stays (fun k => ?_) fun k => hne k.1
    have := ((Qualifier.flips_iff _ _).1 k).2
    omega
  · have hflips : ¬c.levelQ.flips low = true := fun k => ((Qualifier.flips_iff _ _).1 k).1 heq
    split
    · rename_i h
      exact Cell.takeLevel_agrees ⟨heq, h⟩
    · rename_i h
      exact Cell.takeLevel_stays hflips fun k => h k.2
  · rw [State.answerSweep_last hsweep hanswers hlast]
    exact ⟨((s.sweepStopped i).sweepComplete_sweep i).1.trans (congrArg StringRec.sweep (s.sweepStopped_str i)), State.completeSweep_ignored, fun b hw => State.completeSweep_baseline hw⟩
  · subst hp
    refine ⟨fun hcode => ?_, fun low hcode => ?_⟩
    · rw [hcode, State.levelReported_fault hstring hfitted]
    · dsimp only
      rw [hcode, State.levelReported_reading hstring hfitted]
      exact s.levelReading_effects i p low

end Sys2Proof.Machine
end

section
/-! PROOF. What a block that offers commands and posts results can do to the Frame Path and to the Result Queue
(R11 to R13, R163, R164). -/

namespace Sys2Proof.Machine

open Sys2Proof

/-! ## The Frame Path -/

/-- The chain transmitter is busy, no offer waits, and at most `k` frames stand in the chain-local queue. -/
structure FramePath.Open (fp : FramePath) (k : Nat) : Prop where
  offers : fp.offers = []
  sending : fp.chain.sending ≠ none
  length : fp.chain.localQ.length ≤ k

/-- At most `n` commands have been offered; the offers in `K` that waited still wait. -/
structure FpMove (n : Nat) (K : Offer → Prop) (f g : FramePath) : Prop where
  downDrops : g.downDrops = f.downDrops
  unmapped : g.unmapped = f.unmapped
  trunkBad : g.trunk.badFrames = f.trunk.badFrames
  chainBad : g.chain.badFrames = f.chain.badFrames
  forward : g.chain.forwardQ.length ≤ f.chain.forwardQ.length
  full : 8 ≤ f.chain.localQ.length → 8 ≤ g.chain.localQ.length
  waits : ∀ o ∈ f.offers, K o → o ∈ g.offers
  taken : ∀ k, f.Open k → k + n ≤ 8 → g.Open (k + n) ∧ f.chain.localQ ⊆ g.chain.localQ

section
variable {n m : Nat} {K : Offer → Prop} {f g h : FramePath}

theorem FpMove.refl (K : Offer → Prop) (f : FramePath) : FpMove 0 K f f :=
  ⟨rfl, rfl, rfl, rfl, le_rfl, id, fun _ h _ => h, fun _ h _ => ⟨h, List.Subset.refl _⟩⟩

theorem FpMove.trans (a : FpMove n K f g) (b : FpMove m K g h) : FpMove (n + m) K f h where
  downDrops := b.downDrops.trans a.downDrops
  unmapped := b.unmapped.trans a.unmapped
  trunkBad := b.trunkBad.trans a.trunkBad
  chainBad := b.chainBad.trans a.chainBad
  forward := b.forward.trans a.forward
  full := b.full ∘ a.full
  waits o ho hK := b.waits o (a.waits o ho hK) hK
  taken k hk hle := by
    obtain ⟨hg, hfg⟩ := a.taken k hk (by omega)
    obtain ⟨hh, hgh⟩ := b.taken (k + n) hg (by omega)
    exact ⟨by rw [← Nat.add_assoc]; exact hh, List.Subset.trans hfg hgh⟩

theorem FpMove.mono (a : FpMove n K f g) (le : n ≤ m) : FpMove m K f g := by
  refine { a with taken := fun k hk hle => ?_ }
  obtain ⟨hg, hfg⟩ := a.taken k hk (by omega)
  exact ⟨⟨hg.offers, hg.sending, hg.length.trans (by omega)⟩, hfg⟩

theorem FpMove.weaken {L : Offer → Prop} (a : FpMove n K f g) (le : ∀ o, L o → K o) : FpMove n L f g :=
  { a with waits := fun o ho hL => a.waits o ho (le o hL) }

end

section
variable (K : Offer → Prop) (s : State)

/-- Offers that leave are none of `K`. -/
theorem FpMove.filter (fp : FramePath) (p : Offer → Bool) (keeps : ∀ o, K o → p o = true) :
    FpMove 0 K fp { fp with offers := fp.offers.filter p } where
  downDrops := rfl
  unmapped := rfl
  trunkBad := rfl
  chainBad := rfl
  forward := le_rfl
  full := id
  waits o ho hK := List.mem_filter.2 ⟨ho, keeps o hK⟩
  taken k hk _ := ⟨⟨by rw [hk.offers]; rfl, hk.sending, hk.length⟩, List.Subset.refl _⟩

theorem FpMove.withdraw (a : Activity) (other : ∀ o, K o → o.activity ≠ a) : FpMove 0 K s.fp (s.withdraw a).fp :=
  .filter K s.fp _ fun o hK => decide_eq_true (other o hK)

theorem PortState.pushLocal_busy {q : PortState} (busy : q.sending ≠ none) (f : Frame) :
    q.pushLocal f = { q with localQ := q.localQ ++ [f] } := by
  obtain ⟨g, hg⟩ := Option.ne_none_iff_exists'.1 busy
  exact PortState.arbitrate_sending _ g hg

theorem FpMove.takeCmd (room : s.fp.chain.localQ.length < 8) (c : ChainCmd) : FpMove 1 K s.fp (s.takeCmd c).fp where
  downDrops := rfl
  unmapped := rfl
  trunkBad := rfl
  chainBad := (s.fp.chain.pushLocal_bounds _).2.2.2
  forward := (s.fp.chain.pushLocal_bounds _).2.1
  full h := absurd room h.not_gt
  waits _ ho _ := ho
  taken k hk _ := by
    have hchain : (s.takeCmd c).fp.chain = { s.fp.chain with localQ := s.fp.chain.localQ ++ [cmdFrame s.own c] } :=
      PortState.pushLocal_busy hk.sending _
    refine ⟨⟨hk.offers, by rw [hchain]; exact hk.sending, ?_⟩, ?_⟩
    · rw [hchain]
      simpa using hk.length
    · rw [hchain]
      exact List.subset_append_left _ _

theorem FpMove.waitOffer (full : s.offerRoom ≠ true) (a : Activity) (c : ChainCmd) : FpMove 1 K s.fp (s.waitOffer a c).fp where
  downDrops := rfl
  unmapped := rfl
  trunkBad := rfl
  chainBad := rfl
  forward := le_rfl
  full := id
  waits _ ho _ := List.mem_append_left _ ho
  taken k hk hle := absurd ((State.offerRoom_iff s).2 ⟨hk.offers, by have := hk.length; omega⟩) full

theorem FpMove.offerFan (on : Bool) : FpMove 1 K s.fp (s.offerFan on).fp := by
  unfold State.offerFan
  split
  · exact .takeCmd K s ((State.offerRoom_iff s).1 ‹_›).2 _
  · exact .waitOffer K s ‹_› _ _

theorem FpMove.offerBayLast (b : BayNo) (c : ChainCmd) : FpMove 1 K s.fp (s.offerBayLast b c).fp := by
  unfold State.offerBayLast
  split
  · rw [State.fp_startConfirm]
    exact .takeCmd K s ((State.offerRoom_iff s).1 ‹_›).2 _
  · exact .waitOffer K s ‹_› _ _

theorem FpMove.bayTaken (b : BayNo) (c : ChainCmd) : FpMove 1 K s.fp (s.bayTaken b c).fp := by
  unfold State.bayTaken
  split
  · rw [State.fp_startConfirm]
    exact (FpMove.refl K s.fp).mono (by omega)
  · have hfp : ((s.startConfirm b c).modBay b fun r => { r with second := none }).fp = s.fp := s.fp_startConfirm b c
    rw [← hfp]
    exact .offerBayLast K _ b _

/-- A step offers at most two commands. -/
theorem FpMove.beginStep (b : BayNo) (c : ChainCmd) (d : Option ChainCmd) (other : ∀ o, K o → o.activity ≠ .bay b) :
    FpMove 2 K s.fp (s.beginStep b c d).fp := by
  have hbegun : FpMove 0 K s.fp (s.begun b d).fp := .withdraw K s _ other
  rw [State.beginStep_begun]
  generalize s.begun b d = u at hbegun
  split
  · have htake : FpMove 1 K u.fp (u.takeCmd c).fp := .takeCmd K u ((State.offerRoom_iff u).1 ‹_›).2 _
    exact (hbegun.trans htake).trans (.bayTaken K _ b c)
  · exact (hbegun.trans (.waitOffer K u ‹_› _ _)).mono (by omega)

theorem FpMove.offerUp (f : Frame) : FpMove 0 K s.fp (s.offerUp f).fp := by
  unfold State.offerUp
  split
  · exact ⟨rfl, rfl, (s.fp.trunk.pushLocal_bounds _).2.2.2, rfl, le_rfl, id, fun _ h _ => h,
      fun _ h _ => ⟨⟨h.offers, h.sending, h.length⟩, List.Subset.refl _⟩⟩
  · exact ⟨rfl, rfl, rfl, rfl, le_rfl, id, fun _ h _ => h, fun _ h _ => ⟨⟨h.offers, h.sending, h.length⟩, List.Subset.refl _⟩⟩

theorem FpMove.post (r : Result) : FpMove 0 K s.fp (s.post r).fp :=
  .offerUp K { s with mgmt := { s.mgmt with results := Machine.queueResult s.mgmt.results r } } _

/-- The fan that stops offers its OFF. -/
theorem FpMove.fanStop (other : ∀ o, K o → o.activity ≠ .fan) : FpMove 1 K s.fp s.fanStop.fp :=
  (FpMove.withdraw K (s.modGas fun g => { g with fan := .off, runOn := .stopped }) .fan other).trans (.offerFan K _ false)

/-- A string that leaves the bay states brings no need. -/
theorem State.noteBayExit_cases : let u := s.modGas fun g => { g with bayStrings := g.bayStrings - 1 }
    s.noteBayExit = u ∨ s.noteBayExit = u.needEnds := by
  intro u
  have hneed : u.gas.need = true → s.gas.need = true := by
    show ((decide (0 < s.gas.bayStrings - 1) || _) = true) → (decide (0 < s.gas.bayStrings) || _) = true
    rw [Bool.or_eq_true, Bool.or_eq_true]
    exact Or.imp_left fun h => decide_eq_true ((of_decide_eq_true h).trans_le (Nat.sub_le _ _))
  have hexit : s.noteBayExit = u.fanFollow s.gas.need := rfl
  rw [hexit]
  unfold State.fanFollow
  split
  · exact .inl rfl
  · split
    · exact .inr rfl
    · refine .inl (if_neg fun h => ?_)
      rw [Bool.and_eq_true, Bool.not_eq_true'] at h
      rw [hneed h.2] at h
      exact absurd h.1 (by decide)

theorem FpMove.noteBayExit (other : ∀ o, K o → o.activity ≠ .fan) : FpMove 1 K s.fp s.noteBayExit.fp := by
  obtain h | h := s.noteBayExit_cases
  · rw [h]
    exact (FpMove.refl K s.fp).mono (by omega)
  · rw [h]
    unfold State.needEnds
    split
    · split
      · exact .fanStop K (s.modGas fun g => { g with bayStrings := g.bayStrings - 1 }) other
      · exact (FpMove.refl K s.fp).mono (by omega)
    · exact (FpMove.refl K s.fp).mono (by omega)

/-- A job that ends in BASELINE posts its result, and may stop the fan. -/
theorem FpMove.endInBaseline (b : BayNo) (i : StringNo) (e : EndRec) (elapsed : Nat) (other : ∀ o, K o → o.activity ≠ .fan) :
    FpMove 1 K s.fp (s.endInBaseline b i e elapsed).fp := by
  have hfp : FpMove 0 K s.fp (s.baselineFreed b i e elapsed).fp := by
    have hpost := FpMove.post K (s.recordEnd b i e) ((s.recordEnd b i e).equaliseResult b i false elapsed)
    have hfreed : (s.baselineFreed b i e elapsed).fp =
        ((s.recordEnd b i e).post ((s.recordEnd b i e).equaliseResult b i false elapsed)).fp := by
      unfold State.baselineFreed
      rw [State.enterFloat_eq, State.freeBay_frame]
      show ((s.recordEnd b i e).postEqualise b i false elapsed).fp = _
      unfold State.postEqualise State.reportEnd
      split
      · rfl
      · split <;> rfl
    have hrecord : (s.recordEnd b i e).fp = s.fp := by rw [State.recordEnd_eq]; rfl
    rw [hfreed]
    rwa [hrecord] at hpost
  rw [State.endInBaseline_freed]
  exact (hfp.trans (.noteBayExit K _ other)).mono (by omega)

/-- A job that ends by a transfer offers the two commands of its step. -/
theorem FpMove.endToTransferBack (b : BayNo) (i : StringNo) (e : EndRec) (other : ∀ o, K o → o.activity ≠ .bay b) :
    FpMove 2 K s.fp (s.endToTransferBack b i e).fp := by
  rw [State.endToTransferBack_eq]
  exact .beginStep K (s.backWritten b i e) b _ _ other

/-- A CLOSE that is taken while its fill stands opens nothing. -/
theorem State.offerClose_sent {s : State} (room : s.offerRoom = true) (fill : s.water.round.fill ≠ none) (addr channel : Byte) :
    s.offerClose addr channel = { s with
      fp := { s.fp with chain := s.fp.chain.pushLocal (cmdFrame s.own (.valveClose addr channel)) }
      water := { s.water with pendingClose := none } } :=
  (State.offerClose_taken room addr channel).trans (if_neg fun k => fill k.2.1)

theorem FpMove.offerClose (addr channel : Byte) (fill : s.water.round.fill ≠ none) : FpMove 1 K s.fp (s.offerClose addr channel).fp := by
  cases room : s.offerRoom with
  | true =>
    rw [State.offerClose_sent room fill]
    exact .takeCmd K s ((State.offerRoom_iff s).1 room).2 (.valveClose addr channel)
  | false =>
    rw [State.offerClose_waits room]
    exact .waitOffer K s (by rw [room]; decide) .watering (.valveClose addr channel)

end

/-! ## The Result Queue -/

/-- One of the last `k + 1` results has `P`. -/
def Recent (P : Result → Prop) (k : Nat) (l : List Result) : Prop := ∃ before r after, l = before ++ r :: after ∧ P r ∧ after.length ≤ k

/-- What a result says apart from its gap flag. -/
def GapFree (P : Result → Prop) : Prop := ∀ r, P r → P { r with gap := true }

theorem Recent.mem {P : Result → Prop} {k : Nat} {l : List Result} (h : Recent P k l) : ∃ r ∈ l, P r := by
  obtain ⟨before, r, after, rfl, hP, -⟩ := h
  exact ⟨r, List.mem_append_right _ List.mem_cons_self, hP⟩

theorem Recent.mono {P : Result → Prop} {k m : Nat} {l : List Result} (h : Recent P k l) (le : k ≤ m) : Recent P m l := by
  obtain ⟨before, r, after, hl, hP, hk⟩ := h
  exact ⟨before, r, after, hl, hP, hk.trans le⟩

theorem Recent.queueResult_self {P : Result → Prop} (l : List Result) {r : Result} (h : P r) : Recent P 0 (queueResult l r) := by
  unfold queueResult
  split
  · exact ⟨_, r, [], rfl, h, le_rfl⟩
  · exact ⟨_, r, [], rfl, h, le_rfl⟩

/-- A result that is not among the oldest stays as another is posted. -/
theorem Recent.queueResult {P : Result → Prop} (gap : GapFree P) {k : Nat} {l : List Result} (h : Recent P k l) (le : k + 2 ≤ 16)
    (x : Result) : Recent P (k + 1) (queueResult l x) := by
  obtain ⟨before, r, after, rfl, hP, hk⟩ := h
  unfold Machine.queueResult
  split
  · exact ⟨before, r, after ++ [x], by simp, hP, by simpa using hk⟩
  · rename_i hfull
    have hfull : 16 ≤ (before ++ r :: after).length := Nat.le_of_not_lt hfull
    rw [List.length_append, List.length_cons] at hfull
    match before, hfull with
    | [], hfull => simp at hfull; omega
    | [_], _ => exact ⟨[], { r with gap := true }, after ++ [x], rfl, gap r hP, by simpa using hk⟩
    | _ :: y :: before, _ => exact ⟨{ y with gap := true } :: before, r, after ++ [x], by simp [setGap], hP, by simpa using hk⟩

/-- At most `n` results have been posted. -/
def Posts (n : Nat) (l k : List Result) : Prop := ∀ P, GapFree P → ∀ j, Recent P j l → j + n + 1 ≤ 16 → Recent P (j + n) k

theorem Posts.refl (l : List Result) : Posts 0 l l := fun _ _ _ h _ => h

theorem Posts.trans {n m : Nat} {l k j : List Result} (a : Posts n l k) (b : Posts m k j) : Posts (n + m) l j := fun P hP i h hle => by
  have hk := a P hP i h (by omega)
  have hj := b P hP (i + n) hk (by omega)
  rwa [Nat.add_assoc] at hj

theorem Posts.mono {n m : Nat} {l k : List Result} (a : Posts n l k) (le : n ≤ m) : Posts m l k := fun P hP i h hle =>
  (a P hP i h (by omega)).mono (by omega)

theorem Posts.queueResult (l : List Result) (r : Result) : Posts 1 l (queueResult l r) := fun _ hP _ h hle => h.queueResult hP hle r

end Sys2Proof.Machine
end

section
/-! PROOF. The parts of a warm restart that EQ and Intake make before the clock is cleared (R44, R110, R184). -/

namespace Sys2Proof.Machine

open Sys2Proof

/-! ## What every part writes -/

/-- What the parts of a warm restart before Intake's can write; `n` bounds the commands offered and the results posted, and `K`
are offers they leave waiting. -/
structure RestartMove (n : Nat) (K : Offer → Prop) (s t : State) : Prop where
  eq : t = { s with fp := t.fp, strings := t.strings, bays := t.bays, holds := t.holds, mgmt := t.mgmt, gas := t.gas,
                    water := t.water, evalDue := t.evalDue }
  str : ∀ j, t.str j = { s.str j with state := (t.str j).state, bay := (t.str j).bay, startMinute := (t.str j).startMinute,
                                      settle := (t.str j).settle, q := (t.str j).q }
  gas : t.gas = { s.gas with bayStrings := t.gas.bayStrings, fan := t.gas.fan, runOn := t.gas.runOn }
  mgmt : t.mgmt = { s.mgmt with results := t.mgmt.results }
  tank : t.water.tank = s.water.tank
  reserve : t.water.reserve = s.water.reserve
  holds : ∀ h : Hold, h.holder ≠ .fan → h ∈ t.holds → h ∈ s.holds
  fp : FpMove n K s.fp t.fp
  posts : Posts n s.mgmt.results t.mgmt.results

section
variable {n m : Nat} {K : Offer → Prop} {s t u : State}

theorem RestartMove.refl (K : Offer → Prop) (s : State) : RestartMove 0 K s s :=
  ⟨rfl, fun _ => rfl, rfl, rfl, rfl, rfl, fun _ _ h => h, .refl K _, .refl _⟩

theorem RestartMove.trans (h : RestartMove n K s t) (k : RestartMove m K t u) : RestartMove (n + m) K s u where
  eq := by rw [k.eq, h.eq]
  str j := by rw [k.str, h.str]
  gas := by rw [k.gas, h.gas]
  mgmt := by rw [k.mgmt, h.mgmt]
  tank := k.tank.trans h.tank
  reserve := k.reserve.trans h.reserve
  holds x hx hm := h.holds x hx (k.holds x hx hm)
  fp := h.fp.trans k.fp
  posts := h.posts.trans k.posts

theorem RestartMove.mono (h : RestartMove n K s t) (le : n ≤ m) : RestartMove m K s t :=
  { h with fp := h.fp.mono le, posts := h.posts.mono le }

theorem RestartMove.weaken {L : Offer → Prop} (h : RestartMove n K s t) (le : ∀ o, L o → K o) : RestartMove n L s t :=
  { h with fp := h.fp.weaken le }

/-- Only strings are written, and of them only what a restart may write. -/
theorem RestartMove.modStr (K : Offer → Prop) (s : State) (i : StringNo) (f : StringRec → StringRec)
    (h : f (s.str i) = { s.str i with state := (f (s.str i)).state, bay := (f (s.str i)).bay,
                                      startMinute := (f (s.str i)).startMinute, settle := (f (s.str i)).settle,
                                      q := (f (s.str i)).q }) : RestartMove 0 K s (s.modStr i f) := by
  refine ⟨rfl, fun j => ?_, rfl, rfl, rfl, rfl, fun _ _ hm => hm, .refl K _, .refl _⟩
  by_cases hj : j = i
  · rw [hj, s.str_modStr]
    exact h
  · rw [s.str_modStr_ne i j f hj]

theorem RestartMove.trigger (K : Offer → Prop) (s : State) : RestartMove 0 K s s.trigger :=
  ⟨rfl, fun _ => rfl, rfl, rfl, rfl, rfl, fun _ _ h => h, .refl K _, .refl _⟩

end

/-! ## EQ's part for a bay (R110) -/

/-- The end of a job that a warm restart ends. -/
def restartEnd : EndRec := ⟨.abnormal, .restart⟩

/-- No hold of the charger is left when no bay is out of FREE. -/
def State.ChargerFreed (s : State) : Prop := (∀ c, (s.bay c).state = .free) → ⟨s.site.charger, .charger⟩ ∉ s.holds

/-- EQ's part for bay `b`. -/
structure BayRestarted (b : BayNo) (s t : State) : Prop where
  others : ∀ j, (s.bay b).string ≠ some j → t.str j = s.str j
  charge : ∀ j, (t.str j).q = (s.str j).q
  bays : ∀ c, c ≠ b → t.bay c = s.bay c
  water : t.water = s.water
  state : (t.bay b).state = (s.bay b).state ∨ t.bay b = {}
  baseline : ∀ j, (t.str j).state = .baseline → (s.str j).state = .baseline
  quiet : (∀ i, (s.bay b).string = some i → (s.str i).state ≠ .baseline) → t.holds = s.holds ∧ t.gas = s.gas
  switchHold : ∀ (i : StringNo) (a : Byte), (s.str i).state ≠ .baseline → (⟨a, .switch i⟩ : Hold) ∈ s.holds → ⟨a, .switch i⟩ ∈ t.holds
  chargerHold : ∀ a : Byte, (⟨a, .charger⟩ : Hold) ∈ s.holds → ⟨a, .charger⟩ ∈ t.holds ∨ ∀ c, (t.bay c).state = .free
  freed : s.ChargerFreed → t.ChargerFreed

/-- The start minute of a string, counted anew. -/
def State.startCleared (s : State) (i : StringNo) : State := s.modStr i fun r => { r with startMinute := 0 }

theorem State.startCleared_str (s : State) (i : StringNo) : (s.startCleared i).str i = { s.str i with startMinute := 0 } :=
  s.str_modStr i fun r => { r with startMinute := 0 }

theorem State.startCleared_str_ne (s : State) {i j : StringNo} (h : j ≠ i) : (s.startCleared i).str j = s.str j :=
  s.str_modStr_ne i j (fun r => { r with startMinute := 0 }) h

theorem State.startCleared_state (s : State) (i j : StringNo) : ((s.startCleared i).str j).state = (s.str j).state := by
  by_cases hj : j = i
  · rw [hj, s.startCleared_str]
  · rw [s.startCleared_str_ne hj]

theorem State.startCleared_q (s : State) (i j : StringNo) : ((s.startCleared i).str j).q = (s.str j).q := by
  by_cases hj : j = i
  · rw [hj, s.startCleared_str]
  · rw [s.startCleared_str_ne hj]

theorem RestartMove.startCleared (K : Offer → Prop) (s : State) (i : StringNo) : RestartMove 0 K s (s.startCleared i) :=
  .modStr K s i _ rfl

/-- States whose job goes back by a transfer. -/
def backStates : List StringState := [.transferOut, .equalising, .held]

section
variable {s t v : State} {b : BayNo} {i : StringNo}

theorem State.restartBay_none (none : (s.bay b).string = none) : s.restartBay b = s := by
  unfold State.restartBay
  rw [none]

theorem State.restartBay_baseline (names : (s.bay b).string = some i) (state : (s.str i).state = .baseline) :
    s.restartBay b = s.endInBaseline b i restartEnd 0 := by
  unfold State.restartBay
  rw [names]
  simp only [state]
  rfl

theorem State.restartBay_other (names : (s.bay b).string = some i) (state : (s.str i).state ≠ .baseline) :
    s.restartBay b = (s.endJob b restartEnd).startCleared i := by
  unfold State.restartBay
  rw [names]
  dsimp only
  split
  · exact absurd ‹_› state
  · rfl

theorem State.restartBay_back (names : (s.bay b).string = some i) (state : (s.str i).state ∈ backStates) :
    s.restartBay b = (s.endToTransferBack b i restartEnd).startCleared i := by
  rw [State.restartBay_other names fun h => by rw [h] at state; exact absurd state (by decide),
    State.endJob_back names rfl state]

theorem State.restartBay_stays (names : (s.bay b).string = some i) (state : (s.str i).state ≠ .baseline)
    (back : (s.str i).state ∉ backStates) : s.restartBay b = s.startCleared i := by
  rw [State.restartBay_other names state, State.endJob_ignored names fun h => (List.mem_cons.1 h).elim state back]

theorem State.freedHolds_subset (s : State) (b : BayNo) (i : StringNo) : s.freedHolds b i ⊆ s.holds := by
  unfold State.freedHolds
  split
  · exact List.Subset.trans (List.filter_subset_self _) (List.filter_subset_self _)
  · exact List.filter_subset_self _

theorem BaseEnded.restartMove {e : EndRec} {elapsed : Nat} (h : BaseEnded s t b i e elapsed) (plain : e = restartEnd)
    (fp : FpMove 1 K s.fp t.fp) : RestartMove 1 K s t where
  eq := by rw [h.eq]
  str j := by
    by_cases hj : j = i
    · rw [hj, h.str_plain (by rw [plain]; decide) (by rw [plain]; exact .inr rfl)]
    · rw [h.others j hj]
  gas := by rw [h.gas]
  mgmt := by rw [h.mgmt]
  tank := by rw [h.water]
  reserve := by rw [h.water]
  holds x hx hm := s.freedHolds_subset b i ((h.holds x hx).1 hm)
  fp := fp
  posts := by rw [h.mgmt]; exact .queueResult _ _

theorem BackEnded.restartMove {e : EndRec} (h : BackEnded s t b i e) (fp : FpMove 2 K s.fp t.fp) : RestartMove 2 K s t := by
  obtain ⟨hholds, hmgmt, -, hgas, hwater, -⟩ := h.fields
  refine ⟨?_, fun j => ?_, by rw [hgas], by rw [hmgmt], by rw [hwater], by rw [hwater], fun x _ hm => hholds ▸ hm, fp,
    by rw [hmgmt]; exact (Posts.refl _).mono (by omega)⟩
  · rw [h.eq]
  · by_cases hj : j = i
    · rw [hj, h.str]
    · rw [h.others j hj]

/-- A bay that names no string has no part. -/
theorem BayRestarted.refl (b : BayNo) (s : State) : BayRestarted b s s :=
  ⟨fun _ _ => rfl, fun _ => rfl, fun _ _ => rfl, rfl, .inl rfl, fun _ h => h, fun _ => ⟨rfl, rfl⟩, fun _ _ _ h => h, fun _ h => .inl h, id⟩

/-- The part that only clears a start minute. -/
theorem BayRestarted.cleared (names : (s.bay b).string = some i) : BayRestarted b s (s.startCleared i) where
  others j hj := s.startCleared_str_ne fun h => hj (by rw [h]; exact names)
  charge j := s.startCleared_q i j
  bays _ _ := rfl
  water := rfl
  state := .inl rfl
  baseline j h := by rwa [s.startCleared_state] at h
  quiet _ := ⟨rfl, rfl⟩
  switchHold _ _ _ h := h
  chargerHold _ h := .inl h
  freed h := h

/-- A part that is followed by a cleared start minute. -/
theorem BayRestarted.thenCleared (h : BayRestarted b s t) (names : (s.bay b).string = some i) : BayRestarted b s (t.startCleared i) where
  others j hj := (t.startCleared_str_ne fun k => hj (by rw [k]; exact names)).trans (h.others j hj)
  charge j := (t.startCleared_q i j).trans (h.charge j)
  bays := h.bays
  water := h.water
  state := h.state
  baseline j hb := h.baseline j (by rwa [t.startCleared_state] at hb)
  quiet := h.quiet
  switchHold := h.switchHold
  chargerHold := h.chargerHold
  freed := h.freed

theorem StringRec.reported_q (r : StringRec) (e : EndRec) (m : Nat) : (r.reported e m).q = r.q := by rw [StringRec.reported_eq]

/-- A bay that is freed with the other out of use frees the charger. -/
theorem BaseEnded.chargerFreed {e : EndRec} {elapsed : Nat} (h : BaseEnded s t b i e elapsed) : t.ChargerFreed := fun hfree hm => by
  have hsite : t.site = s.site := by rw [h.eq]
  rw [hsite] at hm
  exact h.endsInBaseline.chargerHold (fun c hc => by rw [← h.bays c hc]; exact hfree c) hm

theorem BaseEnded.bayRestarted {e : EndRec} {elapsed : Nat} (h : BaseEnded s t b i e elapsed) (names : (s.bay b).string = some i)
    (state : (s.str i).state = .baseline) : BayRestarted b s t where
  others j hj := h.others j fun k => hj (by rw [k]; exact names)
  charge j := by
    by_cases hj : j = i
    · rw [hj, h.str]; exact (s.str i).reported_q e _
    · rw [h.others j hj]
  bays := h.bays
  water := h.water
  state := .inr h.bay
  baseline j hb := by
    by_cases hj : j = i
    · rw [hj]; exact state
    · rwa [h.others j hj] at hb
  quiet hq := absurd state (hq i names)
  switchHold j a hj hm := by
    refine (h.holds ⟨a, .switch j⟩ nofun).2 (State.mem_freedHolds hm (fun k => ?_) fun k => ?_)
    · obtain rfl : j = i := Holder.switch.inj (congrArg Hold.holder k)
      exact hj state
    · exact nomatch congrArg Hold.holder k
  chargerHold a hm := by
    by_cases hfree : ∀ c, c ≠ b → (s.bay c).state = .free
    · refine .inr fun c => ?_
      by_cases hc : c = b
      · rw [hc, h.bay]
      · rw [h.bays c hc]; exact hfree c hc
    · refine .inl ((h.holds ⟨a, .charger⟩ nofun).2 (State.mem_freedHolds hm (fun k => nomatch congrArg Hold.holder k) fun _ => ?_))
      obtain ⟨c, hc⟩ := not_forall.1 hfree
      exact ⟨c, Classical.not_imp.1 hc⟩
  freed _ := h.chargerFreed

theorem BackEnded.bayRestarted {e : EndRec} (h : BackEnded s t b i e) (names : (s.bay b).string = some i) : BayRestarted b s t := by
  obtain ⟨hholds, -, -, hgas, hwater, -⟩ := h.fields
  refine ⟨fun j hj => h.others j fun k => hj (by rw [k]; exact names), fun j => ?_, h.bays, hwater, .inl (by rw [h.bay]), fun j hb => ?_,
    fun _ => ⟨hholds, hgas⟩, fun _ _ _ hm => hholds ▸ hm, fun _ hm => .inl (hholds ▸ hm), fun hs hfree hm => ?_⟩
  · by_cases hj : j = i
    · rw [hj, h.str]
    · rw [h.others j hj]
  · by_cases hj : j = i
    · rw [hj, h.str] at hb
      cases hb
    · rwa [h.others j hj] at hb
  · have hsite : t.site = s.site := by rw [h.eq]
    rw [hsite, hholds] at hm
    refine hs (fun c => ?_) hm
    by_cases hc : c = b
    · have := hfree b
      rw [h.bay] at this
      rw [hc]
      exact this
    · rw [← h.bays c hc]
      exact hfree c

/-- EQ's part for a bay, and what it can write. -/
theorem State.restartBay_restarted (s : State) (b : BayNo) (K : Offer → Prop) (fan : ∀ o, K o → o.activity ≠ .fan)
    (bay : ∀ o, K o → o.activity ≠ .bay b) : BayRestarted b s (s.restartBay b) ∧ RestartMove 2 K s (s.restartBay b) := by
  cases names : (s.bay b).string with
  | none =>
    rw [State.restartBay_none names]
    exact ⟨.refl b s, (RestartMove.refl K s).mono (by omega)⟩
  | some i =>
    by_cases base : (s.str i).state = .baseline
    · rw [State.restartBay_baseline names base]
      have h := s.endInBaseline_ends b i restartEnd 0
      exact ⟨h.bayRestarted names base, (h.restartMove rfl (.endInBaseline K s b i restartEnd 0 fan)).mono (by omega)⟩
    · by_cases back : (s.str i).state ∈ backStates
      · rw [State.restartBay_back names back]
        have h := s.endToTransferBack_ends b i restartEnd
        exact ⟨(h.bayRestarted names).thenCleared names,
          (h.restartMove (.endToTransferBack K s b i restartEnd bay)).trans (.startCleared K _ i)⟩
      · rw [State.restartBay_stays names base back]
        exact ⟨.cleared names, (RestartMove.startCleared K s i).mono (by omega)⟩

end

end Sys2Proof.Machine
end

section
/-! PROOF. The stages of a warm restart before Intake's part: sweeps stopped, the two bays, SETTLING strings, the round
(R44, R110, R148, R184). -/

namespace Sys2Proof.Machine

open Sys2Proof

/-! ## The stages -/

/-- The counters at 0 and every sweep stopped. -/
def State.restartSweeps (s : State) : State := allStrings.foldl State.stopSweep { s with fp := s.fp.restart }
def State.restartBays (s : State) : State := allBays.foldl State.restartBay s
def State.restartFloats (s : State) : State := allStrings.foldl State.restartSettling s

theorem State.warmRestart_eq (s : State) : s.warmRestart =
    s.restartSweeps.restartBays.restartFloats.restartWater.restartRequests.restartIntake.restartGas.restartLatches := rfl

theorem State.restartBays_eq (s : State) : s.restartBays = (s.restartBay 0).restartBay 1 := rfl

/-! ## Sweeps (R44) -/

/-- The sweeps of the strings in `l` are stopped. -/
structure SweepsStopped (l : List StringNo) (s t : State) : Prop where
  eq : t = { s with fp := t.fp, strings := t.strings }
  stopped : ∀ j ∈ l, t.str j = { s.str j with sweep := .idle }
  others : ∀ j, j ∉ l → t.str j = s.str j
  fp : FpMove 0 (fun _ => False) s.fp t.fp

theorem SweepsStopped.one (s : State) (i : StringNo) : SweepsStopped [i] s (s.stopSweep i) where
  eq := rfl
  stopped j hj := by
    rw [List.mem_singleton.1 hj]
    exact (s.withdraw (.sweep i)).str_modStr i fun r => { r with sweep := .idle }
  others j hj := (s.withdraw (.sweep i)).str_modStr_ne i j (fun r => { r with sweep := .idle }) fun h => hj (List.mem_singleton.2 h)
  fp := .withdraw _ s _ fun _ => False.elim

theorem SweepsStopped.trans {l k : List StringNo} {s t u : State} (h : SweepsStopped l s t) (m : SweepsStopped k t u) :
    SweepsStopped (l ++ k) s u where
  eq := by rw [m.eq, h.eq]
  stopped j hj := by
    by_cases hk : j ∈ k
    · by_cases hl : j ∈ l
      · rw [m.stopped j hk, h.stopped j hl]
      · rw [m.stopped j hk, h.others j hl]
    · rw [m.others j hk, h.stopped j ((List.mem_append.1 hj).resolve_right hk)]
  others j hj := by
    rw [List.mem_append, not_or] at hj
    rw [m.others j hj.2, h.others j hj.1]
  fp := h.fp.trans m.fp

theorem State.stopSweeps (l : List StringNo) (s : State) : SweepsStopped l s (l.foldl State.stopSweep s) := by
  induction l generalizing s with
  | nil => exact ⟨rfl, fun _ h => absurd h List.not_mem_nil, fun _ _ => rfl, .refl _ _⟩
  | cons i l ih => exact (SweepsStopped.one s i).trans (ih _)

/-- Where the counters are 0 and the sweeps stopped, and nothing else is changed. -/
structure RestartBegun (s t : State) : Prop where
  eq : t = { s with fp := t.fp, strings := t.strings }
  str : ∀ j, t.str j = { s.str j with sweep := .idle }
  fp : FpMove 0 (fun _ => False) s.fp.restart t.fp

theorem State.restartSweeps_begun (s : State) : RestartBegun s s.restartSweeps := by
  have h := State.stopSweeps allStrings { s with fp := s.fp.restart }
  have heq := h.eq
  exact ⟨heq.trans rfl, fun j => h.stopped j (mem_allStrings j), h.fp⟩

/-! ## The two bays (R110) -/

/-- The offers a bay waits with. -/
def BayOffer (b : BayNo) (o : Offer) : Prop := o.activity = .bay b ∧ isValveOpen o.cmd = false

/-- Nothing of bay `b` and string `i` is touched. -/
structure Apart (b : BayNo) (i : StringNo) (s t : State) : Prop where
  move : RestartMove 2 (BayOffer b) s t
  str : t.str i = s.str i
  bay : t.bay b = s.bay b
  water : t.water = s.water
  freed : s.ChargerFreed → t.ChargerFreed

theorem Apart.refl (b : BayNo) (i : StringNo) (s : State) : Apart b i s s :=
  ⟨(RestartMove.refl _ s).mono (by omega), rfl, rfl, rfl, id⟩

theorem State.restartBay_all (s : State) (b : BayNo) : BayRestarted b s (s.restartBay b) ∧
    RestartMove 2 (fun _ => False) s (s.restartBay b) :=
  s.restartBay_restarted b _ (fun _ => False.elim) fun _ => False.elim

theorem Apart.restartBay {b c : BayNo} {i : StringNo} {s : State} (other : b ≠ c) (alone : (s.bay c).string ≠ some i) :
    Apart b i s (s.restartBay c) := by
  obtain ⟨h, hmove⟩ := s.restartBay_restarted c (BayOffer b) (fun o ho k => by rw [ho.1] at k; cases k) fun o ho k => by
    rw [ho.1] at k
    exact other (Activity.bay.inj k)
  exact ⟨hmove, h.others i alone, h.bays b other, h.water, h.freed⟩

/-- EQ's part is that of bay `b`, with the other bay's before it or after it. -/
theorem State.restartBays_at (s : State) (b : BayNo) (i : StringNo) (alone : ∀ c, c ≠ b → (s.bay c).string ≠ some i) :
    ∃ u, Apart b i s u ∧ Apart b i (u.restartBay b) s.restartBays := by
  have hb : b = 0 ∨ b = 1 := (by decide : ∀ b : BayNo, b = 0 ∨ b = 1) b
  obtain rfl | rfl := hb
  · have hbay : (s.restartBay 0).bay 1 = s.bay 1 := (s.restartBay_all 0).1.bays 1 (by decide)
    exact ⟨s, .refl 0 i s, .restartBay (by decide) fun h =>
      alone 1 (by decide) ((congrArg Bay.string hbay).symm.trans h)⟩
  · exact ⟨s.restartBay 0, .restartBay (by decide) (alone 0 (by decide)), .refl 1 i _⟩

/-- What EQ's part leaves of the rest. -/
structure BaysRestarted (s t : State) : Prop where
  move : RestartMove 4 (fun _ => False) s t
  water : t.water = s.water
  charge : ∀ j, (t.str j).q = (s.str j).q
  others : ∀ i, (∀ b, (s.bay b).string ≠ some i) → t.str i = s.str i
  quiet : (∀ b i, (s.bay b).string = some i → (s.str i).state ≠ .baseline) → t.holds = s.holds ∧ t.gas = s.gas
  switchHold : ∀ (i : StringNo) (a : Byte), (s.str i).state ≠ .baseline → (⟨a, .switch i⟩ : Hold) ∈ s.holds → ⟨a, .switch i⟩ ∈ t.holds
  chargerHold : ∀ a : Byte, (⟨a, .charger⟩ : Hold) ∈ s.holds → ⟨a, .charger⟩ ∈ t.holds ∨ ∀ c, (t.bay c).state = .free

theorem BayRestarted.free {b : BayNo} {s t : State} (h : BayRestarted b s t) {c : BayNo} (free : (s.bay c).state = .free) :
    (t.bay c).state = .free := by
  by_cases hc : c = b
  · obtain hs | hs := h.state
    · rw [hc, hs, ← hc]; exact free
    · rw [hc, hs]
  · rw [h.bays c hc]; exact free

theorem State.restartBays_restarted (s : State) : BaysRestarted s s.restartBays := by
  obtain ⟨h, hmove⟩ := s.restartBay_all 0
  obtain ⟨k, kmove⟩ := (s.restartBay 0).restartBay_all 1
  rw [s.restartBays_eq]
  generalize s.restartBay 0 = t at h hmove k kmove
  generalize t.restartBay 1 = u at k kmove
  have hbay : t.bay 1 = s.bay 1 := h.bays 1 (by decide)
  refine ⟨hmove.trans kmove, k.water.trans h.water, fun j => (k.charge j).trans (h.charge j), fun i hi => ?_, fun hq => ?_, fun i a hi hm => ?_, fun a hm => ?_⟩
  · rw [k.others i (by rw [hbay]; exact hi 1), h.others i (hi 0)]
  · obtain ⟨hholds, hgas⟩ := h.quiet (hq 0)
    obtain ⟨kholds, kgas⟩ := k.quiet fun i hi hb => hq 1 i (by rw [← hbay]; exact hi) (h.baseline i hb)
    exact ⟨kholds.trans hholds, kgas.trans hgas⟩
  · exact k.switchHold i a (fun hb => hi (h.baseline i hb)) (h.switchHold i a hi hm)
  · obtain ht | hfree := h.chargerHold a hm
    · exact k.chargerHold a ht
    · exact .inr fun c => k.free (hfree c)

/-! ## SETTLING strings (R110) -/

/-- A SETTLING string is put in FLOAT. -/
def StringRec.settled (r : StringRec) : StringRec := if r.state = .settling then { r with settle := .stopped, state := .float } else r

theorem StringRec.settled_idem (r : StringRec) : r.settled.settled = r.settled := by
  by_cases h : r.state = .settling
  · unfold StringRec.settled
    rw [if_pos h]
    rfl
  · have hr : r.settled = r := if_neg h
    rw [hr, hr]

/-- The SETTLING strings of `l` are in FLOAT. -/
structure Floats (l : List StringNo) (s t : State) : Prop where
  eq : t = { s with strings := t.strings, evalDue := t.evalDue }
  settled : ∀ j ∈ l, t.str j = (s.str j).settled
  others : ∀ j, j ∉ l → t.str j = s.str j

theorem Floats.trans {l k : List StringNo} {s t u : State} (h : Floats l s t) (m : Floats k t u) : Floats (l ++ k) s u where
  eq := by rw [m.eq, h.eq]
  settled j hj := by
    by_cases hk : j ∈ k
    · by_cases hl : j ∈ l
      · rw [m.settled j hk, h.settled j hl, StringRec.settled_idem]
      · rw [m.settled j hk, h.others j hl]
    · rw [m.others j hk, h.settled j ((List.mem_append.1 hj).resolve_right hk)]
  others j hj := by
    rw [List.mem_append, not_or] at hj
    rw [m.others j hj.2, h.others j hj.1]

theorem Floats.one (s : State) (i : StringNo) : Floats [i] s (s.restartSettling i) := by
  have hother : ∀ j, j ∉ [i] → j ≠ i := fun j hj h => hj (List.mem_singleton.2 h)
  unfold State.restartSettling
  split
  · rename_i hs
    refine ⟨rfl, fun j hj => ?_, fun j hj => ?_⟩
    · rw [List.mem_singleton.1 hj, State.enterFloat_str, State.str_modStr, StringRec.settled, if_pos hs]
    · rw [State.enterFloat_str_ne _ i (hother j hj), s.str_modStr_ne i j _ (hother j hj)]
  · rename_i hs
    refine ⟨rfl, fun j hj => ?_, fun _ _ => rfl⟩
    rw [List.mem_singleton.1 hj, StringRec.settled, if_neg hs]

theorem State.restartFloats_floats (s : State) : Floats allStrings s s.restartFloats := by
  have hfold : ∀ (l : List StringNo) (s : State), Floats l s (l.foldl State.restartSettling s) := fun l => by
    induction l with
    | nil => exact fun s => ⟨rfl, fun _ h => absurd h List.not_mem_nil, fun _ _ => rfl⟩
    | cons i l ih => exact fun s => (Floats.one s i).trans (ih _)
  exact hfold allStrings s

theorem Floats.str {s t : State} (h : Floats allStrings s t) (j : StringNo) : t.str j = (s.str j).settled := h.settled j (mem_allStrings j)

theorem StringRec.settled_fields (r : StringRec) : r.settled = { r with state := r.settled.state, settle := r.settled.settle } := by
  unfold StringRec.settled
  split <;> rfl

theorem Floats.restartMove {s t : State} (h : Floats allStrings s t) (K : Offer → Prop) : RestartMove 0 K s t where
  eq := by rw [h.eq]
  str j := by rw [h.str, StringRec.settled_fields]
  gas := by rw [h.eq]
  mgmt := by rw [h.eq]
  tank := by rw [h.eq]
  reserve := by rw [h.eq]
  holds x _ hm := by rwa [h.eq] at hm
  fp := by rw [h.eq]; exact .refl K _
  posts := by rw [h.eq]; exact .refl _

end Sys2Proof.Machine
end

section
/-! PROOF. WT's part of a warm restart (R143 to R148). -/

namespace Sys2Proof.Machine

open Sys2Proof

/-! ## The end of a round -/

/-- What the end of a round leaves of the rest. -/
structure RoundOver (s t : State) : Prop where
  move : ∀ K, RestartMove 1 K s t
  round : t.water.round = {}
  bays : t.bays = s.bays
  gas : t.gas = s.gas
  str : ∀ j, t.str j = { s.str j with state := (t.str j).state, q := (t.str j).q }
  float : ∀ j, (s.str j).state = .float → (t.str j).state = .float
  others : ∀ j, s.water.round.string ≠ some j → t.str j = s.str j
  holds : ∀ h ∈ s.holds, h.holder ≠ .manifold → h ∈ t.holds

theorem State.endRoundWith_over (s : State) (e : EndRec) (extra elapsed : Nat) : RoundOver s (s.endRoundWith e extra elapsed) := by
  cases name : s.water.round.string with
  | none =>
    have ht : s.endRoundWith e extra elapsed = { s with water := { s.water with round := {} }, evalDue := true } := by
      have hname : (s.modRound fun r => r.close e extra).water.round.string = none := name
      unfold State.endRoundWith
      dsimp only
      rw [hname]
      rfl
    rw [ht]
    exact ⟨fun K => ⟨rfl, fun _ => rfl, rfl, rfl, rfl, rfl, fun _ _ h => h, (FpMove.refl K _).mono (by omega),
      (Posts.refl _).mono (by omega)⟩, rfl, rfl, rfl, fun _ => rfl, fun _ h => h, fun _ _ => rfl, fun _ h _ => h⟩
  | some i =>
    have h := State.endRoundWith_ends name e extra elapsed
    have hpost := State.endRoundWith_named name e extra elapsed
    have hfp : ∀ K, FpMove 0 K s.fp (s.endRoundWith e extra elapsed).fp := fun K => by
      rw [hpost]
      exact .post K (s.roundCleared i e) _
    have hmgmt : ∃ r, (s.endRoundWith e extra elapsed).mgmt = { s.mgmt with results := queueResult s.mgmt.results r } :=
      ⟨_, by rw [hpost]; exact State.post_mgmt _ _⟩
    obtain ⟨r, hmgmt⟩ := hmgmt
    generalize s.endRoundWith e extra elapsed = t at h hfp hmgmt
    refine ⟨fun K => ⟨?_, fun j => ?_, by rw [h.gas], by rw [hmgmt], by rw [h.water], by rw [h.water], fun x _ hm => ?_,
      (hfp K).mono (by omega), by rw [hmgmt]; exact .queueResult _ _⟩, by rw [h.water], h.bays, h.gas, fun j => ?_,
      fun j hj => ?_, fun j hj => h.others fun k => hj (by rw [k, name]), fun x hx hm => ?_⟩
    · rw [h.frame]
      rfl
    · by_cases hj : j = i
      · rw [hj, h.str]
      · rw [h.others hj]
    · rw [h.holds] at hm
      exact List.mem_of_mem_filter hm
    · by_cases hj : j = i
      · rw [hj, h.str]
      · rw [h.others hj]
    · by_cases hji : j = i
      · rw [hji, h.str]
      · rw [h.others hji]; exact hj
    · rw [h.holds]
      exact List.mem_filter.2 ⟨hx, decide_eq_true hm⟩

/-- The result of a round, as a warm restart posts it. -/
def RestartResult (w : Round) (e : EndRec) (missed : Nat) (r : Result) : Prop :=
  some r.string = w.string ∧ r.cls = e.cls ∧ r.cause = e.cause ∧ r.elapsed = 0 ∧ r.startMinute = w.startMinute ∧
    r.part = .watering w.filled w.total missed w.faulted

theorem State.endRoundWith_result {s : State} {i : StringNo} (name : s.water.round.string = some i) (e : EndRec) (extra : Nat) :
    ∃ r, (s.endRoundWith e extra 0).mgmt.results.getLast? = some r ∧
      RestartResult s.water.round e (s.water.round.fillList.length + extra) r := by
  rw [State.endRoundWith_named name e extra 0]
  exact ⟨_, State.post_last _ _, name.symm, rfl, rfl, rfl, rfl, rfl⟩

/-! ## The fill of the round, withdrawn or closed (R148) -/

/-- The fill of the round of `s` is given up, before the round ends with `e` and `extra` positions not reached. -/
structure FillGivenUp (s u : State) (e : EndRec) (extra : Nat) : Prop where
  eq : u = { s with fp := u.fp, water := u.water }
  round : u.water.round = { s.water.round with fill := u.water.round.fill, fillTimer := u.water.round.fillTimer }
  tank : u.water.tank = s.water.tank
  reserve : u.water.reserve = s.water.reserve
  fp : ∀ K : Offer → Prop, (∀ o, K o → isValveOpen o.cmd = false) → FpMove 1 K s.fp u.fp
  ending : s.water.round.state = .ending → ∀ e', s.water.round.ended = some e' → e = e' ∧ extra = 1
  filling : s.water.round.state = .filling → e = restartEnd ∧ (s.water.round.fill = none → extra = 0) ∧
    ∀ f, s.water.round.fill = some f → extra = 1 ∧
      (f.phase = .offered → ∀ o ∈ u.fp.offers, isValveOpen o.cmd = false) ∧
      (f.phase = .outstanding → u.fp = (s.offerClose f.addr f.channel).fp ∧
        u.water.pendingClose = (s.offerClose f.addr f.channel).water.pendingClose)

/-- A CLOSE that is offered while its fill stands: the command, and what is pending. -/
theorem State.offerClose_eq (s : State) (fill : s.water.round.fill ≠ none) (addr channel : Byte) :
    s.offerClose addr channel = { s with
      fp := (s.offerClose addr channel).fp
      water := { s.water with pendingClose := (s.offerClose addr channel).water.pendingClose } } := by
  cases room : s.offerRoom with
  | true => rw [State.offerClose_sent room fill]
  | false => rw [State.offerClose_waits room]

theorem State.restartWater_idle {s : State} (h : s.water.round.state = .idle) : s.restartWater = s := by
  unfold State.restartWater
  rw [h]

/-- An OUTSTANDING fill is given up by its CLOSE. -/
theorem FillGivenUp.closed {s v : State} {f : Fill} (state : s.water.round.state = .filling) (fill : s.water.round.fill = some f)
    (phase : f.phase = .outstanding) (hv : v = s.offerClose f.addr f.channel) : FillGivenUp s v.fillStopped restartEnd 1 := by
  have hfill : s.water.round.fill ≠ none := by rw [fill]; exact Option.some_ne_none f
  have heq := s.offerClose_eq hfill f.addr f.channel
  have hfp := fun K => FpMove.offerClose K s f.addr f.channel hfill
  rw [← hv] at heq hfp
  have hwater : v.water = { s.water with pendingClose := v.water.pendingClose } := (congrArg State.water heq).trans rfl
  refine ⟨?_, ?_, (congrArg Watering.tank hwater).trans rfl, (congrArg Watering.reserve hwater).trans rfl, fun K _ => hfp K, fun k => ?_, fun _ => ⟨rfl, fun k => ?_,
    fun g hg => ?_⟩⟩
  · have hframe : v = { s with fp := v.fp, water := v.water } := by rw [heq]
    unfold State.fillStopped State.modRound State.modWater
    rw [hframe]
  · have hround : v.water.round = s.water.round := (congrArg Watering.round hwater).trans rfl
    rw [← hround]
    rfl
  · rw [state] at k; cases k
  · rw [fill] at k; cases k
  · obtain rfl : f = g := Option.some.inj (fill.symm.trans hg)
    exact ⟨rfl, fun k => absurd (phase.symm.trans k) (by decide), fun _ => by rw [← hv]; exact ⟨rfl, rfl⟩⟩

theorem State.restartWater_ends {s : State} (h : s.water.round.state ≠ .idle) :
    ∃ u e extra, FillGivenUp s u e extra ∧ s.restartWater = u.endRoundWith e extra 0 := by
  have hrefl : ∀ K : Offer → Prop, FpMove 1 K s.fp s.fp := fun K => (FpMove.refl K s.fp).mono (by omega)
  cases state : s.water.round.state with
  | idle => exact absurd state h
  | ending =>
    refine ⟨s.fillStopped, s.water.round.ended.getD ⟨.abnormal, .cancelled⟩, 1, ⟨rfl, rfl, rfl, rfl, fun K _ => hrefl K,
      fun _ e' he => ⟨by rw [he]; rfl, rfl⟩, fun k => by rw [state] at k; cases k⟩, ?_⟩
    unfold State.restartWater
    rw [state]
    rfl
  | filling =>
    cases fill : s.water.round.fill with
    | none =>
      refine ⟨s, restartEnd, 0, ⟨rfl, rfl, rfl, rfl, fun K _ => hrefl K, fun k => (by rw [state] at k; cases k),
        fun _ => ⟨rfl, fun _ => rfl, fun f hf => by rw [fill] at hf; cases hf⟩⟩, ?_⟩
      unfold State.restartWater
      simp only [state, fill]
      rfl
    | some f =>
      cases phase : f.phase with
      | offered =>
        refine ⟨s.withdrawOpen.modRound fun r => { r with fill := none }, restartEnd, 1, ⟨rfl, rfl, rfl, rfl,
          fun K hK => (FpMove.filter K s.fp _ fun o ho => by rw [hK o ho]; rfl).mono (by omega),
          fun k => (by rw [state] at k; cases k), fun _ => ⟨rfl, fun k => (by rw [fill] at k; cases k), fun g hg => ⟨rfl, fun _ o ho => ?_,
            fun k => ?_⟩⟩⟩, ?_⟩
        · have hclosed := (List.mem_filter.1 ho).2
          rwa [Bool.not_eq_true'] at hclosed
        · obtain rfl : f = g := Option.some.inj (fill.symm.trans hg)
          rw [phase] at k
          cases k
        · unfold State.restartWater
          simp only [state, fill, phase]
          rfl
      | outstanding =>
        refine ⟨_, restartEnd, 1, .closed state fill phase rfl, ?_⟩
        unfold State.restartWater
        simp only [state, fill, phase]
        rfl

/-! ## WT's part -/

theorem FillGivenUp.restartMove {s u : State} {e : EndRec} {extra : Nat} (h : FillGivenUp s u e extra) {K : Offer → Prop}
    (closed : ∀ o, K o → isValveOpen o.cmd = false) : RestartMove 1 K s u where
  eq := by rw [h.eq]
  str j := by rw [h.eq]; rfl
  gas := by rw [h.eq]
  mgmt := by rw [h.eq]
  tank := h.tank
  reserve := h.reserve
  holds x _ hm := by rwa [h.eq] at hm
  fp := h.fp K closed
  posts := by rw [h.eq]; exact (Posts.refl _).mono (by omega)

/-- What WT's part leaves of the rest. -/
structure WaterRestarted (s t : State) : Prop where
  move : ∀ K : Offer → Prop, (∀ o, K o → isValveOpen o.cmd = false) → RestartMove 2 K s t
  idle : t.water.round.state = .idle
  cleared : s.water.round.state ≠ .idle → t.water.round = {}
  bays : t.bays = s.bays
  gas : t.gas = s.gas
  str : ∀ j, t.str j = { s.str j with state := (t.str j).state, q := (t.str j).q }
  float : ∀ j, (s.str j).state = .float → (t.str j).state = .float
  others : ∀ j, s.water.round.string ≠ some j → t.str j = s.str j
  holds : ∀ h ∈ s.holds, h.holder ≠ .manifold → h ∈ t.holds

theorem State.restartWater_restarted (s : State) : WaterRestarted s s.restartWater := by
  by_cases h : s.water.round.state = .idle
  · rw [State.restartWater_idle h]
    exact ⟨fun K _ => (RestartMove.refl K s).mono (by omega), h, fun k => absurd h k, rfl, rfl, fun _ => rfl, fun _ hf => hf, fun _ _ => rfl, fun _ hm _ => hm⟩
  · obtain ⟨u, e, extra, hu, heq⟩ := State.restartWater_ends h
    have hover := u.endRoundWith_over e extra 0
    rw [← heq] at hover
    have hround : u.water.round.string = s.water.round.string := by rw [hu.round]
    have hstr : ∀ j, u.str j = s.str j := fun j => by rw [hu.eq]; rfl
    exact ⟨fun K hK => (hu.restartMove hK).trans (hover.move K), by rw [hover.round], fun _ => hover.round,
      hover.bays.trans (by rw [hu.eq]), hover.gas.trans (by rw [hu.eq]), fun j => (hover.str j).trans (by rw [hstr]),
      fun j hj => hover.float j (by rw [hstr]; exact hj),
      fun j hj => (hover.others j (by rw [hround]; exact hj)).trans (hstr j),
      fun x hx hm => hover.holds x (by rw [hu.eq]; exact hx) hm⟩

/-- The round of string `i` ends in a warm restart. -/
structure RoundRestarted (s t : State) (i : StringNo) : Prop where
  float : (t.str i).state = .float
  manifold : ∀ h ∈ t.holds, h.holder ≠ .manifold
  ends : ∃ u e extra, FillGivenUp s u e extra ∧ t.fp.chain = u.fp.chain ∧ t.fp.offers = u.fp.offers ∧
    t.water.pendingClose = u.water.pendingClose ∧ (t.str i).q = u.settledQ i e ∧
    ∃ r, t.mgmt.results.getLast? = some r ∧ RestartResult s.water.round e (s.water.round.fillList.length + extra) r

theorem State.restartWater_round {s : State} {i : StringNo} (running : s.water.round.state ≠ .idle)
    (name : s.water.round.string = some i) : RoundRestarted s s.restartWater i := by
  obtain ⟨u, e, extra, hu, heq⟩ := State.restartWater_ends running
  have hname : u.water.round.string = some i := by rw [hu.round]; exact name
  have hend := State.endRoundWith_ends hname e extra 0
  obtain ⟨r, hlast, hres⟩ := State.endRoundWith_result hname e extra
  rw [← heq] at hend hlast
  refine ⟨by rw [hend.str], fun x hx => ?_, u, e, extra, hu, hend.chain.1, hend.chain.2, by rw [hend.water], by rw [hend.str], r, hlast, ?_⟩
  · rw [hend.holds] at hx
    exact of_decide_eq_true (List.mem_filter.1 hx).2
  · rw [hu.round] at hres
    exact hres

end Sys2Proof.Machine
end

section
/-! PROOF. A warm restart as a whole: its stages put together, and Intake's, RQ's, GS's and MU's parts at its end (R26, R62, R81,
R123, R168, R184). -/

namespace Sys2Proof.Machine

open Sys2Proof

/-! ## The last parts -/

/-- A string as RQ's and Intake's parts leave it at minute `now`. -/
def StringRec.afterRestart (r : StringRec) (now : Nat) : StringRec := ({ r with retryHold := carryHold now r.retryHold } : StringRec).restart

theorem StringRec.restart_kept (r : StringRec) : r.restart = { r with
    lastArrival := none, lastCurrent := 0, lastVoltage := 0, lastMean := none, cells := r.restart.cells,
    presence := r.restart.presence, censusStart := r.restart.censusStart } := by
  unfold StringRec.restart
  dsimp only
  split <;> rfl

theorem StringRec.restart_census {r : StringRec} (fitted : r.cfg.cellCount ≠ 0) :
    r.restart.presence = .unknown ∧ r.restart.censusStart = some 0 := by
  unfold StringRec.restart
  exact ⟨(congrArg StringRec.presence (if_neg fitted)).trans rfl, (congrArg StringRec.censusStart (if_neg fitted)).trans rfl⟩

/-- What the last parts make of state `r`. -/
structure RestartDone (r t : State) : Prop where
  eq : t = { r with requests := [], clock := {}, strings := t.strings, gas := r.restartGas.gas,
                    mgmt := { r.mgmt with latches := Vector.replicate 8 none }, evalDue := false }
  str : ∀ j, t.str j = (r.str j).afterRestart r.minute

/-- An evaluation of an empty list only takes note that it was due. -/
theorem State.settle_of_nil {s : State} (h : s.requests = []) : s.settle = { s with evalDue := false } := by
  cases hdue : s.evalDue with
  | true =>
    rw [State.settle_due s hdue]
    exact State.evaluate_of_nil h
  | false =>
    rw [State.settle_quiet hdue, ← hdue]

/-- The strings and the clock as RQ's and Intake's parts leave them. -/
def State.intakeDone (r : State) : State := r.restartRequests.restartIntake

theorem State.intakeDone_eq (r : State) : r.intakeDone = { r with requests := [], clock := {}, strings := r.intakeDone.strings } := rfl

theorem State.intakeDone_str (r : State) (j : StringNo) : r.intakeDone.str j = (r.str j).afterRestart r.minute := by
  unfold State.intakeDone State.restartIntake State.restartRequests
  rw [State.str_mapStrings]
  refine congrArg StringRec.restart ?_
  exact State.str_mapStrings _ (fun _ x => { x with retryHold := carryHold r.minute x.retryHold }) j

theorem State.restart_done (r : State) : RestartDone r r.intakeDone.restartGas.restartLatches.settle := by
  have hsettle : r.intakeDone.restartGas.restartLatches.settle = { r.intakeDone.restartGas.restartLatches with evalDue := false } :=
    State.settle_of_nil (congrArg State.requests r.intakeDone_eq)
  have heq := r.intakeDone_eq
  have hstr := r.intakeDone_str
  rw [hsettle]
  generalize r.intakeDone = u at heq hstr
  refine ⟨?_, hstr⟩
  unfold State.restartLatches State.restartGas State.lostLength State.modGas
  rw [heq]

/-! ## The whole restart -/

/-- The stages of a warm restart from `s` to `t`: sweeps stopped, bays ended, strings settled, round ended, last parts. -/
structure WarmRestarted (s q v f r t : State) : Prop where
  begun : RestartBegun s q
  ran : v = q.restartBays
  bays : BaysRestarted q v
  floats : Floats allStrings v f
  watered : r = f.restartWater
  water : WaterRestarted f r
  done : RestartDone r t

theorem State.warmRestart_stages (s : State) : WarmRestarted s s.restartSweeps s.restartSweeps.restartBays
    s.restartSweeps.restartBays.restartFloats s.restartSweeps.restartBays.restartFloats.restartWater s.warmRestart.settle := by
  rw [State.warmRestart_eq]
  exact ⟨s.restartSweeps_begun, rfl, State.restartBays_restarted _, State.restartFloats_floats _, rfl, State.restartWater_restarted _,
    State.restart_done _⟩

section
variable {s q v f r t : State}

theorem RestartBegun.bay (h : RestartBegun s q) (b : BayNo) : q.bay b = s.bay b := by rw [h.eq]; rfl

theorem RestartBegun.water (h : RestartBegun s q) : q.water = s.water := by rw [h.eq]

theorem Floats.bay (h : Floats allStrings v f) (b : BayNo) : f.bay b = v.bay b := by rw [h.eq]; rfl

theorem WaterRestarted.bay (h : WaterRestarted f r) (b : BayNo) : r.bay b = f.bay b := by
  unfold State.bay
  rw [h.bays]

theorem RestartDone.bay (h : RestartDone r t) (b : BayNo) : t.bay b = r.bay b := by rw [h.eq]; rfl

/-- What the stages between write. -/
theorem WarmRestarted.move (h : WarmRestarted s q v f r t) : RestartMove 6 (fun _ => False) q r :=
  (h.bays.move.trans (h.floats.restartMove _)).trans (h.water.move _ fun _ => False.elim)

theorem WarmRestarted.waterBefore (h : WarmRestarted s q v f r t) : f.water = s.water := by
  have hf : f.water = v.water := by rw [h.floats.eq]
  rw [hf, h.bays.water, h.begun.water]

theorem RestartMove.site {n : Nat} {K : Offer → Prop} (h : RestartMove n K s t) : t.site = s.site := by rw [h.eq]

theorem RestartMove.sameReadings {n : Nat} {K : Offer → Prop} (h : RestartMove n K s t) (i : StringNo) : SameReadings i s t :=
  ⟨by rw [h.str], by rw [h.str], by rw [h.eq], by rw [h.eq], by rw [h.eq]⟩

theorem RestartBegun.sameReadings (h : RestartBegun s q) (i : StringNo) : SameReadings i s q :=
  ⟨by rw [h.str], by rw [h.str], by rw [h.eq], by rw [h.eq], by rw [h.eq]⟩

/-- The tables, the straps, the counters and the gas state after a warm restart. -/
theorem WarmRestarted.frame (h : WarmRestarted s q v f r t) : t.mgmt.mu = s.mgmt.mu ∧ t.mgmt.input = s.mgmt.input ∧ t.second = 0 ∧
    t.clock.hourDue = false ∧ t.requests = [] ∧ t.mgmt.latches = Vector.replicate 8 none ∧
    t.water.round.state = .idle ∧ (s.water.round.state ≠ .idle → t.water.round = {}) ∧
    t.site = s.site ∧ t.sourceMap = s.sourceMap ∧ t.profiles = s.profiles ∧ t.ceiling = s.ceiling ∧
    t.water.tank = s.water.tank ∧ t.water.reserve = s.water.reserve ∧ t.node = s.node ∧ t.baud = s.baud ∧
    t.gas.state = s.gas.state ∧ t.gas.reason = s.gas.reason ∧ t.gas.sensor = s.gas.sensor ∧
    t.gas.lost = (if s.gas.sensor = .live then .running (4 * s.site.sampleTimeout) else .stopped) ∧
    t.gas.filter = s.gas.filter ∧ t.gas.filterAgree = 0 ∧ t.gas.qualifier = { state := s.gas.qualifier.state, agree := 0 } ∧
    t.fp.downDrops = 0 ∧ t.fp.unmapped = 0 ∧ t.fp.trunk.badFrames = 0 ∧ t.fp.chain.badFrames = 0 ∧
    t.fp.chain.forwardQ.length ≤ s.fp.chain.forwardQ.length := by
  have hmove := h.move
  have hround : f.water.round = s.water.round := by rw [h.waterBefore]
  have hwater : t.water = r.water := by rw [h.done.eq]
  have hmgmt : t.mgmt = { r.mgmt with latches := Vector.replicate 8 none } := by rw [h.done.eq]
  have hrmgmt : r.mgmt = { s.mgmt with results := r.mgmt.results } := by rw [hmove.mgmt, h.begun.eq]
  have hqgas : q.gas = s.gas := by rw [h.begun.eq]
  have hgas : r.gas = { s.gas with bayStrings := r.gas.bayStrings, fan := r.gas.fan, runOn := r.gas.runOn } := by
    rw [hmove.gas, hqgas]
  have htgas : t.gas = r.restartGas.gas := by rw [h.done.eq]
  have hrsite : r.site = s.site := hmove.site.trans (by rw [h.begun.eq])
  have hfp : t.fp = r.fp := by rw [h.done.eq]
  have hpath := h.begun.fp.trans hmove.fp
  have htables : r.sourceMap = s.sourceMap ∧ r.profiles = s.profiles ∧ r.ceiling = s.ceiling ∧ r.node = s.node ∧ r.baud = s.baud := by
    rw [hmove.eq, h.begun.eq]
    exact ⟨rfl, rfl, rfl, rfl, rfl⟩
  have htt : t.site = r.site ∧ t.sourceMap = r.sourceMap ∧ t.profiles = r.profiles ∧ t.ceiling = r.ceiling ∧ t.node = r.node ∧
      t.baud = r.baud ∧ t.clock = {} ∧ t.requests = [] := by
    rw [h.done.eq]
    exact ⟨rfl, rfl, rfl, rfl, rfl, rfl, rfl, rfl⟩
  obtain ⟨hmap, hprofiles, hceiling, hnode, hbaud⟩ := htables
  obtain ⟨htsite, htmap, htprofiles, htceiling, htnode, htbaud, htclock, htrequests⟩ := htt
  refine ⟨by rw [hmgmt, hrmgmt], by rw [hmgmt, hrmgmt], congrArg Clock.second htclock, congrArg Clock.hourDue htclock, htrequests,
    by rw [hmgmt], by rw [hwater]; exact h.water.idle, fun hrun => by rw [hwater]; exact h.water.cleared (by rw [hround]; exact hrun),
    htsite.trans hrsite, htmap.trans hmap, htprofiles.trans hprofiles, htceiling.trans hceiling, ?_, ?_, htnode.trans hnode,
    htbaud.trans hbaud, ?_, ?_, ?_, ?_, ?_, ?_, ?_, ?_, ?_, ?_, ?_, ?_⟩
  · rw [hwater, hmove.tank, h.begun.water]
  · rw [hwater, hmove.reserve, h.begun.water]
  · rw [htgas]; exact (congrArg Gas.state hgas).trans rfl
  · rw [htgas]; exact (congrArg Gas.reason hgas).trans rfl
  · rw [htgas]; exact (congrArg Gas.sensor hgas).trans rfl
  · have hsensor : r.gas.sensor = s.gas.sensor := (congrArg Gas.sensor hgas).trans rfl
    have hlost : r.restartGas.gas.lost = if r.gas.sensor = .live then .running (4 * r.site.sampleTimeout) else .stopped := rfl
    rw [htgas, hlost, hsensor, hrsite]
  · rw [htgas]; exact (congrArg Gas.filter hgas).trans rfl
  · rw [htgas]; rfl
  · have hqual : r.gas.qualifier = s.gas.qualifier := (congrArg Gas.qualifier hgas).trans rfl
    rw [htgas, ← hqual]
    rfl
  · rw [hfp]; exact hpath.downDrops
  · rw [hfp]; exact hpath.unmapped
  · rw [hfp]; exact hpath.trunkBad
  · rw [hfp]; exact hpath.chainBad
  · rw [hfp]; exact hpath.forward

/-- A string after a warm restart, but for the job and the round it stands in. -/
theorem WarmRestarted.string (h : WarmRestarted s q v f r t) (i : StringNo) :
    (t.str i).cfg = (s.str i).cfg ∧ (t.str i).sweep = .idle ∧ (t.str i).age = (s.str i).age ∧
      (∀ m, (s.str i).retryHold = some m → (s.minute < m → (t.str i).retryHold = some (m - s.minute)) ∧
        (m ≤ s.minute → (t.str i).retryHold = none)) ∧
      ((s.str i).retryHold = none → (t.str i).retryHold = none) ∧ (t.str i).lastArrival = none ∧
      (t.str i).lastCurrent = 0 ∧ (t.str i).lastVoltage = 0 ∧ (t.str i).lastMean = none ∧
      (t.str i).jobCharge = (s.str i).jobCharge ∧
      ((s.str i).cfg.cellCount ≠ 0 → (t.str i).presence = .unknown ∧ (t.str i).censusStart = some 0) ∧
      ((s.str i).state = .settling → (∀ b, (s.bay b).string ≠ some i) → (t.str i).state = .float ∧ (t.str i).settle = .stopped) ∧
      (∀ p, let c := s.cell i p
        t.cell i p = { binding := c.binding, override := c.override, valveFault := c.valveFault, dispensed := c.dispensed }) := by
  have hr : r.str i = { s.str i with
      sweep := .idle, state := (r.str i).state, bay := (r.str i).bay, startMinute := (r.str i).startMinute,
      settle := (r.str i).settle, q := (r.str i).q } := by
    rw [h.move.str, h.begun.str]
  have hminute : r.minute = s.minute := by
    unfold State.minute
    rw [(h.move.sameReadings i).clock, (h.begun.sameReadings i).clock]
  have ht : t.str i = { r.str i with
      retryHold := carryHold s.minute (s.str i).retryHold, lastArrival := none, lastCurrent := 0, lastVoltage := 0, lastMean := none,
      cells := (t.str i).cells, presence := (t.str i).presence, censusStart := (t.str i).censusStart } := by
    rw [h.done.str, StringRec.afterRestart, StringRec.restart_kept, hminute, hr]
  have hretry : (t.str i).retryHold = carryHold s.minute (s.str i).retryHold := by rw [ht]
  refine ⟨by rw [ht, hr], by rw [ht, hr], by rw [ht, hr], fun m hm => ⟨fun hlt => ?_, fun hle => ?_⟩, fun hnone => ?_, by rw [ht],
    by rw [ht], by rw [ht], by rw [ht], by rw [ht, hr], fun fitted => ?_, fun settling unnamed => ?_, fun p => ?_⟩
  · rw [hretry, hm]
    exact if_neg hlt.not_ge
  · rw [hretry, hm]
    exact if_pos hle
  · rw [hretry, hnone]
    rfl
  · rw [h.done.str]
    exact StringRec.restart_census (r := { r.str i with retryHold := carryHold r.minute (r.str i).retryHold }) (by
      show (r.str i).cfg.cellCount ≠ 0
      rw [hr]
      exact fitted)
  · have hv : v.str i = q.str i := h.bays.others i fun b => by rw [h.begun.bay]; exact unnamed b
    have hset : f.str i = { q.str i with settle := .stopped, state := .float } := by
      rw [h.floats.str, hv]
      exact if_pos (by rw [h.begun.str]; exact settling)
    have hfloat : (r.str i).state = .float := h.water.float i (by rw [hset])
    have hstop : (r.str i).settle = .stopped := by rw [h.water.str, hset]
    exact ⟨by rw [ht]; exact hfloat, by rw [ht]; exact hstop⟩
  · have hcell : t.cell i p = (r.cell i p).restart := by
      unfold State.cell
      rw [h.done.str, StringRec.afterRestart, StringRec.restart_cell]
      rfl
    have hsame : r.cell i p = s.cell i p := by rw [(h.move.sameReadings i).cell, (h.begun.sameReadings i).cell]
    dsimp only
    rw [hcell, hsame]
    rfl

/-- The holds that a warm restart keeps. -/
theorem WarmRestarted.holds (h : WarmRestarted s q v f r t) : ∀ x ∈ s.holds, x.holder ≠ .manifold →
    ((∀ b i, (s.bay b).string = some i → (s.str i).state ≠ .baseline) → x ∈ t.holds) ∧
    (∀ i b st, x.holder = .switch i → Working s b i st → st ≠ .baseline → x ∈ t.holds) ∧
    (x.holder = .charger → (∃ b, (t.bay b).state ≠ .free) → x ∈ t.holds) := by
  intro x hx hm
  have hq : x ∈ q.holds := by rw [h.begun.eq]; exact hx
  have hstate : ∀ i, (q.str i).state = (s.str i).state := fun i => by rw [h.begun.str]
  have hlast : x ∈ v.holds → x ∈ t.holds := fun hv => by
    have hf : x ∈ f.holds := by rw [h.floats.eq]; exact hv
    rw [h.done.eq]
    exact h.water.holds x hf hm
  obtain ⟨a, holder⟩ := x
  refine ⟨fun hno => hlast ?_, fun i b st hholder hw hst => hlast ?_, fun hholder ⟨b, hb⟩ => hlast ?_⟩
  · rw [(h.bays.quiet fun b i hb => by rw [hstate]; exact hno b i (by rw [← h.begun.bay]; exact hb)).1]
    exact hq
  · obtain rfl : holder = .switch i := hholder
    exact h.bays.switchHold i a (by rw [hstate, hw.state]; exact hst) hq
  · obtain rfl : holder = .charger := hholder
    refine (h.bays.chargerHold a hq).resolve_right fun hfree => hb ?_
    rw [h.done.bay, h.water.bay, h.floats.bay]
    exact hfree b

/-- With no job in BASELINE a warm restart leaves the fan. -/
theorem WarmRestarted.fan (h : WarmRestarted s q v f r t)
    (hno : ∀ b i, (s.bay b).string = some i → (s.str i).state ≠ .baseline) :
    t.gas.fan = s.gas.fan ∧ t.gas.runOn = s.gas.runOn ∧ t.gas.bayStrings = s.gas.bayStrings := by
  have hstate : ∀ i, (q.str i).state = (s.str i).state := fun i => by rw [h.begun.str]
  have hv : v.gas = q.gas := (h.bays.quiet fun b i hb => by rw [hstate]; exact hno b i (by rw [← h.begun.bay]; exact hb)).2
  have hf : f.gas = v.gas := by rw [h.floats.eq]
  have hr : r.gas = s.gas := by rw [h.water.gas, hf, hv, h.begun.eq]
  have ht : t.gas = r.restartGas.gas := by rw [h.done.eq]
  rw [ht, ← hr]
  exact ⟨rfl, rfl, rfl⟩

end

end Sys2Proof.Machine
end

section
/-! PROOF. The jobs and the round that a warm restart finds, and O36 (R110, R148, R184). -/

namespace Sys2Proof.Machine

open Sys2Proof

/-! ## A job (R110) -/

/-- EQ's part for bay `b` of string `i`, from `u` to its own end, within the restart from `s` to `t`; string and bay are
touched by no other part but the last ones. -/
structure JobRestarted (s t u : State) (b : BayNo) (i : StringNo) : Prop where
  reads : SameReadings i s u
  str : u.str i = { s.str i with sweep := .idle }
  bay : u.bay b = s.bay b
  own : u.own = s.own
  full : 8 ≤ s.fp.chain.localQ.length → 8 ≤ u.fp.chain.localQ.length
  opened : s.fp.Open 0 → u.fp.Open 2
  state : (t.str i).state = ((u.restartBay b).str i).settled.state
  bound : (t.str i).bay = ((u.restartBay b).str i).bay
  start : (t.str i).startMinute = ((u.restartBay b).str i).startMinute
  bayLast : t.bay b = (u.restartBay b).bay b
  path : FpMove 4 (BayOffer b) (u.restartBay b).fp t.fp
  posts : Posts 4 (u.restartBay b).mgmt.results t.mgmt.results
  holds : ∀ h : Hold, h.holder ≠ .fan → h ∈ t.holds → h ∈ (u.restartBay b).holds
  site : t.site = s.site
  freed : (u.restartBay b).ChargerFreed → t.ChargerFreed

theorem StringRec.afterRestart_job (x : StringRec) (now : Nat) : (x.afterRestart now).state = x.state ∧
    (x.afterRestart now).bay = x.bay ∧ (x.afterRestart now).startMinute = x.startMinute := by
  rw [StringRec.afterRestart, StringRec.restart_kept]
  exact ⟨rfl, rfl, rfl⟩

theorem State.own_congr {s t : State} (h : t.node = s.node) : t.own = s.own := by
  unfold State.own
  rw [h]

/-- Bays that are the same, and holds that only leave, keep the charger freed. -/
theorem State.ChargerFreed.mono {s t : State} (h : s.ChargerFreed) (site : t.site = s.site) (bays : ∀ c, t.bay c = s.bay c)
    (holds : ∀ x : Hold, x.holder ≠ .fan → x ∈ t.holds → x ∈ s.holds) : t.ChargerFreed := by
  intro hfree hm
  rw [site] at hm
  exact h (fun c => by rw [← bays]; exact hfree c) (holds ⟨s.site.charger, .charger⟩ (fun k => nomatch k) hm)

theorem WarmRestarted.job {s q v f r t : State} (h : WarmRestarted s q v f r t) {b : BayNo} {i : StringNo}
    (alone : ∀ c, c ≠ b → (s.bay c).string ≠ some i) (dry : s.water.round.string ≠ some i) : ∃ u, JobRestarted s t u b i := by
  obtain ⟨u, hu, hv⟩ := q.restartBays_at b i fun c hc => by rw [h.begun.bay]; exact alone c hc
  rw [← h.ran] at hv
  refine ⟨u, ?_⟩
  generalize hw : u.restartBay b = w at hv
  have hrest : RestartMove 4 (BayOffer b) w r := (hv.move.trans (h.floats.restartMove _)).trans (h.water.move _ fun o ho => ho.2)
  have hstr : r.str i = (w.str i).settled := by
    rw [h.water.others i (by rw [h.waterBefore]; exact dry), h.floats.str, hv.str]
  have hbays : ∀ c, t.bay c = v.bay c := fun c => by rw [h.done.bay, h.water.bay, h.floats.bay]
  obtain ⟨hstate, hbound, hstart⟩ := (r.str i).afterRestart_job r.minute
  rw [← h.done.str, hstr] at hstate hbound hstart
  have hfp : t.fp = r.fp := by rw [h.done.eq]
  have hmgmt : t.mgmt.results = r.mgmt.results := by rw [h.done.eq]
  have hholds : t.holds = r.holds := by rw [h.done.eq]
  have htsite : t.site = r.site := by rw [h.done.eq]
  have hsite : t.site = s.site := by rw [htsite, h.move.site, h.begun.eq]
  have hvr : RestartMove 2 (fun _ => False) v r := (h.floats.restartMove _).trans (h.water.move _ fun _ => False.elim)
  have hkept : (w.str i).settled.bay = (w.str i).bay ∧ (w.str i).settled.startMinute = (w.str i).startMinute := by
    rw [StringRec.settled_fields]
    exact ⟨rfl, rfl⟩
  subst hw
  refine ⟨(h.begun.sameReadings i).trans (hu.move.sameReadings i), by rw [hu.str, h.begun.str], by rw [hu.bay, h.begun.bay],
    State.own_congr (by rw [hu.move.eq, h.begun.eq]), fun hfull => hu.move.fp.full (h.begun.fp.full hfull), fun hopen => ?_, hstate,
    hbound.trans hkept.1, hstart.trans hkept.2, by rw [hbays, hv.bay], by rw [hfp]; exact hrest.fp, by rw [hmgmt]; exact hrest.posts,
    fun x hx hm => hrest.holds x hx (by rw [← hholds]; exact hm), hsite, fun hw => ?_⟩
  · have hq := (h.begun.fp.taken 0 ⟨hopen.offers, hopen.sending, hopen.length⟩ (by omega)).1
    exact (hu.move.fp.taken 0 hq (by omega)).1
  · exact (hv.freed hw).mono (htsite.trans hvr.site) hbays fun x hx hm => hvr.holds x hx (by rw [← hholds]; exact hm)

section
variable {s t u : State} {b : BayNo} {i : StringNo}

theorem JobRestarted.working (h : JobRestarted s t u b i) {st : StringState} (hw : Working s b i st) : Working u b i st :=
  ⟨by rw [h.bay]; exact hw.busy, by rw [h.bay]; exact hw.names, by rw [h.str]; exact hw.named, by rw [h.str]; exact hw.state⟩

/-- The result of a job that a warm restart ends in BASELINE. -/
def RestartedJobResult (s : State) (i : StringNo) (r : Result) : Prop :=
  r.string = i ∧ r.cls = .abnormal ∧ r.cause = .restart ∧ r.elapsed = 0 ∧ r.isolated = false ∧ r.startMinute = (s.str i).startMinute

/-- A job in BASELINE. -/
theorem JobRestarted.baseline (h : JobRestarted s t u b i) (hw : Working s b i .baseline) :
    (t.str i).state = .float ∧ (t.str i).bay = none ∧ t.bay b = {} ∧ ⟨(s.str i).cfg.switch, .switch i⟩ ∉ t.holds ∧
      ((∀ c, (t.bay c).state = .free) → ⟨s.site.charger, .charger⟩ ∉ t.holds) ∧ ∃ r ∈ t.mgmt.results, RestartedJobResult s i r := by
  have hwu := h.working hw
  have hrun := State.restartBay_baseline hwu.names hwu.state
  have hend := u.endInBaseline_ends b i restartEnd 0
  rw [← hrun] at hend
  have hstart : (u.str i).startMinute = (s.str i).startMinute := by rw [h.str]
  have hcfg : (u.str i).cfg = (s.str i).cfg := h.reads.cfg
  obtain ⟨-, -, -, -, -, -, state, bound, -, bayLast, -, posts, holds, site, freed⟩ := h
  generalize u.restartBay b = w at hend state bound bayLast posts holds freed
  have hfloat : (w.str i).settled.state = .float := by
    rw [hend.str]
    rfl
  refine ⟨state.trans hfloat, bound.trans (by rw [hend.str]), bayLast.trans hend.bay, fun hm => ?_, ?_, ?_⟩
  · rw [← hcfg] at hm
    exact hend.endsInBaseline.switchHold (holds ⟨(u.str i).cfg.switch, .switch i⟩ (fun k => nomatch k) hm)
  · rw [← site]
    exact freed hend.chargerFreed
  · have hrecent : Recent (RestartedJobResult s i) 0 w.mgmt.results := by
      rw [hend.mgmt]
      exact .queueResult_self _ ⟨rfl, rfl, rfl, rfl, rfl, hstart⟩
    exact (posts _ (fun _ hr => hr) 0 hrecent (by omega)).mem

theorem PortState.pushLocal_busy_twice {q : PortState} (busy : q.sending ≠ none) (x y : Frame) :
    (q.pushLocal x).pushLocal y = { q with localQ := q.localQ ++ [x] ++ [y] } := by
  rw [PortState.pushLocal_busy busy]
  exact PortState.pushLocal_busy (q := { q with localQ := q.localQ ++ [x] }) busy y

/-- A job in TRANSFER_OUT, EQUALISING or HELD. -/
theorem JobRestarted.back (h : JobRestarted s t u b i) {st : StringState} (hst : st ∈ backStates) (hw : Working s b i st) :
    (t.str i).state = .transferBack ∧ (t.str i).startMinute = 0 ∧ (t.str i).bay = some b ∧
      (t.bay b).state = .busy ∧ (t.bay b).ended = some restartEnd ∧ (t.bay b).endSpread = s.spreadOf i ∧
      (t.bay b).limit = (s.bay b).limit ∧ (t.bay b).duration = .stopped ∧
      (8 ≤ s.fp.chain.localQ.length → ⟨.bay b, .chargerOff s.site.charger b⟩ ∈ t.fp.offers ∧
        (t.bay b).second = some (.switch (s.str i).cfg.switch .float)) ∧
      (s.fp.Open 0 → cmdFrame s.own (.chargerOff s.site.charger b) ∈ t.fp.chain.localQ ∧
        cmdFrame s.own (.switch (s.str i).cfg.switch .float) ∈ t.fp.chain.localQ ∧
        (t.bay b).confirm = .running s.site.confirmTime) := by
  have hwu := h.working hw
  have hrun := State.restartBay_back hwu.names (by rw [hwu.state]; exact hst)
  have hend := u.endToTransferBack_ends b i restartEnd
  generalize u.endToTransferBack b i restartEnd = w at hend hrun
  have hstr : (u.restartBay b).str i = { u.str i with state := .transferBack, startMinute := 0 } := by
    rw [hrun, State.startCleared_str, hend.str]
  have hbay : (u.restartBay b).bay b = w.bay b := by rw [hrun]; rfl
  have hfp : (u.restartBay b).fp = w.fp := by rw [hrun]; rfl
  obtain ⟨reads, str, bay, own, full, opened, state, bound, start, bayLast, path, -, -, -, -⟩ := h
  rw [hstr] at state bound start
  rw [hbay] at bayLast
  rw [hfp] at path
  have hcfg : (u.str i).cfg = (s.str i).cfg := reads.cfg
  refine ⟨state, start, bound.trans hwu.named, ?_, ?_, ?_, ?_, ?_, fun hfull => ?_, fun hopen => ?_⟩
  · rw [bayLast, hend.bay]; exact hwu.busy
  · rw [bayLast, hend.bay]
  · rw [bayLast, hend.bay]; exact reads.spreadOf
  · rw [bayLast, hend.bay, ← bay]
  · rw [bayLast, hend.bay]
  · obtain ⟨-, hsecond, hoffers⟩ := hend.waiting fun hroom => absurd hroom.2 (full hfull).not_gt
    rw [hcfg] at hsecond
    rw [reads.site] at hoffers
    refine ⟨path.waits _ ?_ ⟨rfl, rfl⟩, by rw [bayLast]; exact hsecond⟩
    rw [hoffers]
    exact List.mem_append_right _ List.mem_cons_self
  · have hu := opened hopen
    have hbut : u.offersBut b = [] := by unfold State.offersBut; rw [hu.offers]; rfl
    obtain ⟨hconfirm, hpath⟩ := hend.taken hbut (by have := hu.length; omega)
    rw [hcfg, own, reads.site] at hpath
    rw [reads.site] at hconfirm
    have hchain : w.fp.chain = { u.fp.chain with localQ := u.fp.chain.localQ ++ [cmdFrame s.own (.chargerOff s.site.charger b)] ++
        [cmdFrame s.own (.switch (s.str i).cfg.switch .float)] } := by
      rw [hpath]
      exact PortState.pushLocal_busy_twice hu.sending _ _
    have hwopen : w.fp.Open 4 := by
      refine ⟨by rw [hpath], by rw [hchain]; exact hu.sending, ?_⟩
      rw [hchain]
      have := hu.length
      simp only [List.length_append, List.length_cons, List.length_nil]
      omega
    have hkeep := (path.taken 4 hwopen (by omega)).2
    rw [hchain] at hkeep
    exact ⟨hkeep (List.mem_append_left _ (List.mem_append_right _ List.mem_cons_self)),
      hkeep (List.mem_append_right _ List.mem_cons_self), by rw [bayLast]; exact hconfirm⟩

/-- A job in TRANSFER_BACK, and a BLOCKED bay. -/
theorem JobRestarted.stays (h : JobRestarted s t u b i)
    (hjob : Working s b i .transferBack ∨ ((s.bay b).state = .blocked ∧ (s.bay b).string = some i ∧ (s.str i).state = .isolated)) :
    t.bay b = s.bay b ∧ (t.str i).state = (s.str i).state ∧ (t.str i).bay = (s.str i).bay ∧ (t.str i).startMinute = 0 := by
  have hnames : (s.bay b).string = some i := hjob.elim (·.names) (·.2.1)
  have hstate : (s.str i).state = .transferBack ∨ (s.str i).state = .isolated := hjob.imp (·.state) (·.2.2)
  have hu : (u.str i).state = (s.str i).state := by rw [h.str]
  have hrun : u.restartBay b = u.startCleared i := State.restartBay_stays (by rw [h.bay]; exact hnames)
    (by rw [hu]; obtain k | k := hstate <;> rw [k] <;> decide) (by rw [hu]; obtain k | k := hstate <;> rw [k] <;> decide)
  have hstr : (u.restartBay b).str i = { s.str i with sweep := .idle, startMinute := 0 } := by
    rw [hrun, State.startCleared_str, h.str]
  have hsettled : ((u.restartBay b).str i).settled = (u.restartBay b).str i := by
    refine if_neg ?_
    rw [hstr]
    show (s.str i).state ≠ .settling
    obtain k | k := hstate <;> rw [k] <;> decide
  have hbay : (u.restartBay b).bay b = s.bay b := by rw [hrun]; exact h.bay
  exact ⟨h.bayLast.trans hbay, by rw [h.state, hsettled, hstr], by rw [h.bound, hstr], by rw [h.start, hstr]⟩

end

/-! ## A round (R148) -/

/-- The round's result, as the last one posted. -/
def RoundPosted (s t : State) (e : EndRec) (missed : Nat) : Prop :=
  ∃ r, t.mgmt.results.getLast? = some r ∧ RestartResult s.water.round e missed r

theorem WarmRestarted.round {s q v f r t : State} (h : WarmRestarted s q v f r t) {i : StringNo}
    (running : s.water.round.state ≠ .idle) (name : s.water.round.string = some i) :
    let w := s.water.round
    (t.str i).state = .float ∧ (∀ x ∈ t.holds, x.holder ≠ .manifold) ∧
      (∀ e f, w.state = .ending → w.ended = some e → w.fill = some f → RoundPosted s t e (w.fillList.length + 1)) ∧
      (w.state = .filling →
        (t.str i).q = reduceQ (s.str i).q w.total (s.str i).cfg.cellCount (s.profile i).gassing ∧
        (w.fill = none → RoundPosted s t restartEnd w.fillList.length) ∧
        (∀ f, w.fill = some f → RoundPosted s t restartEnd (w.fillList.length + 1) ∧
          (f.phase = .offered → ∀ o ∈ t.fp.offers, isValveOpen o.cmd = false) ∧
          (f.phase = .outstanding → 8 ≤ s.fp.chain.localQ.length →
            ⟨.watering, .valveClose f.addr f.channel⟩ ∈ t.fp.offers ∧ t.water.pendingClose = some ⟨f.addr, f.channel⟩) ∧
          (f.phase = .outstanding → s.fp.Open 0 →
            cmdFrame s.own (.valveClose f.addr f.channel) ∈ t.fp.chain.localQ ∧ t.water.pendingClose = none))) := by
  intro w
  have hfw : f.water = s.water := h.waterBefore
  have hround : RoundRestarted f r i := by
    rw [h.watered]
    exact State.restartWater_round (by rw [hfw]; exact running) (by rw [hfw]; exact name)
  obtain ⟨hfloat, hmanifold, u, e, extra, hgiven, hchain, hoffers, hpending, hq, res, hlast, hres⟩ := hround
  rw [hfw] at hres
  have hmove : RestartMove 4 (fun _ => False) q f := h.bays.move.trans (h.floats.restartMove _)
  have hcharge : (f.str i).q = (s.str i).q := by
    rw [h.floats.str, StringRec.settled_fields, h.bays.charge, h.begun.str]
  have hreads := (h.begun.sameReadings i).trans (hmove.sameReadings i)
  have hown : f.own = s.own := State.own_congr (by rw [hmove.eq, h.begun.eq])
  have hfp : t.fp.chain = u.fp.chain ∧ t.fp.offers = u.fp.offers ∧ t.water.pendingClose = u.water.pendingClose ∧ t.holds = r.holds ∧
      t.mgmt.results = r.mgmt.results := by
    rw [h.done.eq]
    exact ⟨hchain, hoffers, hpending, rfl, rfl⟩
  obtain ⟨htchain, htoffers, htpending, htholds, htresults⟩ := hfp
  have hposted : RoundPosted s t e (w.fillList.length + extra) := ⟨res, by rw [htresults]; exact hlast, hres⟩
  have hstate : (t.str i).state = .float := by
    rw [h.done.str, ((r.str i).afterRestart_job r.minute).1, hfloat]
  have hfull : 8 ≤ s.fp.chain.localQ.length → 8 ≤ f.fp.chain.localQ.length := fun k => hmove.fp.full (h.begun.fp.full k)
  have hopen : s.fp.Open 0 → f.fp.Open 4 := fun k =>
    (hmove.fp.taken 0 (h.begun.fp.taken 0 ⟨k.offers, k.sending, k.length⟩ (by omega)).1 (by omega)).1
  refine ⟨hstate, fun x hx => hmanifold x (by rw [← htholds]; exact hx), fun e' g hend hended _ => ?_, fun hfill => ?_⟩
  · obtain ⟨he, hextra⟩ := hgiven.ending (by rw [hfw]; exact hend) e' (by rw [hfw]; exact hended)
    rw [he, hextra] at hposted
    exact hposted
  · obtain ⟨he, hnone, hsome⟩ := hgiven.filling (by rw [hfw]; exact hfill)
    rw [he] at hposted
    refine ⟨?_, fun hno => ?_, fun g hg => ?_⟩
    · have htq : (t.str i).q = (r.str i).q := by
        rw [h.done.str, StringRec.afterRestart, StringRec.restart_kept]
      have hustr : u.str i = f.str i := by rw [hgiven.eq]; rfl
      have htotal : u.water.round.total = w.total := by rw [hgiven.round, hfw]
      have huprofile : u.profile i = f.profile i := by rw [hgiven.eq]; rfl
      rw [htq, hq, he]
      refine (if_neg fun k => absurd k.1 (by decide)).trans ?_
      rw [htotal, hustr, hcharge, huprofile, hreads.cfg, hreads.profile]
    · rw [hnone (by rw [hfw]; exact hno)] at hposted
      exact hposted
    · obtain ⟨hextra, hoffered, houtstanding⟩ := hsome g (by rw [hfw]; exact hg)
      rw [hextra] at hposted
      have hfill : f.water.round.fill ≠ none := by rw [hfw]; exact fun k => nomatch hg.symm.trans k
      refine ⟨hposted, fun hphase => by rw [htoffers]; exact hoffered hphase, fun hphase k => ?_, fun hphase k => ?_⟩
      · have hroom : f.offerRoom = false := by
          rw [← Bool.not_eq_true, State.offerRoom_iff]
          exact fun hr => absurd hr.2 (hfull k).not_gt
        obtain ⟨hup, huc⟩ := houtstanding hphase
        rw [State.offerClose_waits hroom] at hup huc
        rw [htoffers, htpending, hup, huc]
        exact ⟨List.mem_append_right _ List.mem_cons_self, rfl⟩
      · have hf := hopen k
        have hroom : f.offerRoom = true := (State.offerRoom_iff f).2 ⟨hf.offers, by have := hf.length; omega⟩
        obtain ⟨hup, huc⟩ := houtstanding hphase
        rw [State.offerClose_sent hroom hfill] at hup huc
        rw [htchain, htpending, hup, huc]
        refine ⟨?_, rfl⟩
        show _ ∈ (f.fp.chain.pushLocal _).localQ
        rw [PortState.pushLocal_busy hf.sending, hown]
        exact List.mem_append_right _ List.mem_cons_self

end Sys2Proof.Machine
end

section
/-! PROOF. O36: RESTART and the warm restart (R12, R175, R184). -/

namespace Sys2Proof.Machine

open Sys2Proof

/-! ## The reply first (R175, R184) -/

theorem State.mu_idle {u : State} (idle : u.mgmt.mu = .idle) : { u with mgmt := { u.mgmt with mu := .idle } } = u := by
  rw [← idle]

/-- The state in which the reply of a RESTART has just been taken. -/
def State.restartReplied (s : State) (reply : Frame) : State :=
  { s with mgmt := { s.mgmt with mu := .idle } }.modPort .trunk (·.pushLocal reply)

theorem State.replyTaken_restart (s : State) (reply : Frame) : s.replyTaken reply true = (s.restartReplied reply).warmRestart.settle := by
  unfold State.replyTaken State.restartReplied
  exact if_pos rfl

theorem State.restartReplied_idle {u : State} (idle : u.mgmt.mu = .idle) (reply : Frame) :
    u.restartReplied reply = u.modPort .trunk (·.pushLocal reply) := by
  unfold State.restartReplied
  rw [State.mu_idle idle]

theorem AtHead.takeRestart {s : State} {src : Byte} {rest : List Request} (hs : AtHead s src [0x10] rest) :
    s.takeRestart = if (s.withInput rest).trunkLocalRoom then
        (s.withInput rest).replyTaken (mkFrame src s.own 0x31 [0x10, 0x00]) true
      else { s.withInput rest with
        mgmt := { (s.withInput rest).mgmt with mu := .waiting (mkFrame src s.own 0x31 [0x10, 0x00]) true } } := by
  unfold State.takeRestart
  rw [hs.idle, hs.head]
  exact if_pos rfl

theorem AtHead.restart_taken {s : State} {src : Byte} {rest : List Request} (hs : AtHead s src [0x10] rest)
    (room : s.fp.trunk.localQ.length < 8) : exec .restart s = .next (((s.withInput rest).modPort .trunk
      (·.pushLocal (mkFrame src s.own 0x31 [0x10, 0x00]))).warmRestart.settle) := by
  refine congrArg Host.Outcome.next (hs.takeRestart.trans ((if_pos ((s.withInput rest).trunkLocalRoom_iff.2 room)).trans ?_))
  rw [State.replyTaken_restart, State.restartReplied_idle (u := s.withInput rest) hs.idle]

theorem AtHead.restart_waits {s : State} {src : Byte} {rest : List Request} (hs : AtHead s src [0x10] rest)
    (full : 8 ≤ s.fp.trunk.localQ.length) : exec .restart s = .next { s.withInput rest with
      mgmt := { (s.withInput rest).mgmt with mu := .waiting (mkFrame src s.own 0x31 [0x10, 0x00]) true } } :=
  congrArg Host.Outcome.next (hs.takeRestart.trans (if_neg ((s.withInput rest).trunkLocalRoom_iff.not.2 full.not_gt)))

section
variable {s : State} {reply : Frame}

theorem execWarmRestart_eq (waiting : s.mgmt.mu = .waiting reply true) :
    exec .warmRestart s = .next (if s.trunkLocalRoom then (s.restartReplied reply).warmRestart.settle else s) := by
  show execWarmRestart s = _
  unfold execWarmRestart
  rw [waiting]
  show Host.Outcome.next (if s.trunkLocalRoom then s.replyTaken reply true else s) = _
  rw [State.replyTaken_restart]

theorem execMgmtReplyTaken_restart (waiting : s.mgmt.mu = .waiting reply true) : exec .mgmtReplyTaken s = exec .warmRestart s := by
  rw [execWarmRestart_eq waiting]
  show execMgmtReplyTaken s = _
  unfold execMgmtReplyTaken
  rw [waiting]
  show Host.Outcome.next (if s.trunkLocalRoom then s.replyTaken reply true else s) = _
  rw [State.replyTaken_restart]

end

/-! ## The effects -/

/-- The jobs and the round of `s`, as a warm restart leaves them in `t`. -/
theorem WarmRestarted.string_job {s q v f r t : State} (h : WarmRestarted s q v f r t) (i : StringNo) (b : BayNo)
    (alone : ∀ c, c ≠ b → (s.bay c).string ≠ some i) (dry : s.water.round.string ≠ some i) :
    (Working s b i .baseline → (t.str i).state = .float ∧ (t.str i).bay = none ∧ t.bay b = {} ∧
      ⟨(s.str i).cfg.switch, .switch i⟩ ∉ t.holds ∧ ((∀ c, (t.bay c).state = .free) → ⟨s.site.charger, .charger⟩ ∉ t.holds) ∧
      ∃ r ∈ t.mgmt.results, RestartedJobResult s i r) ∧
    (∀ st ∈ backStates, Working s b i st →
      (t.str i).state = .transferBack ∧ (t.str i).startMinute = 0 ∧ (t.str i).bay = some b ∧
      (t.bay b).state = .busy ∧ (t.bay b).ended = some restartEnd ∧ (t.bay b).endSpread = s.spreadOf i ∧
      (t.bay b).limit = (s.bay b).limit ∧ (t.bay b).duration = .stopped ∧
      (8 ≤ s.fp.chain.localQ.length → ⟨.bay b, .chargerOff s.site.charger b⟩ ∈ t.fp.offers ∧
        (t.bay b).second = some (.switch (s.str i).cfg.switch .float)) ∧
      (s.fp.Open 0 → cmdFrame s.own (.chargerOff s.site.charger b) ∈ t.fp.chain.localQ ∧
        cmdFrame s.own (.switch (s.str i).cfg.switch .float) ∈ t.fp.chain.localQ ∧
        (t.bay b).confirm = .running s.site.confirmTime)) ∧
    (Working s b i .transferBack ∨ ((s.bay b).state = .blocked ∧ (s.bay b).string = some i ∧ (s.str i).state = .isolated) →
      t.bay b = s.bay b ∧ (t.str i).state = (s.str i).state ∧ (t.str i).bay = (s.str i).bay ∧ (t.str i).startMinute = 0) := by
  obtain ⟨u, hjob⟩ := h.job alone dry
  exact ⟨hjob.baseline, fun st hst => hjob.back hst, hjob.stays⟩

theorem FramePath.open_of_quiet {fp : FramePath} (h : fp.offers = [] ∧ fp.chain.localQ = [] ∧ fp.chain.sending ≠ none) : fp.Open 0 :=
  ⟨h.1, h.2.2, by rw [h.2.1]; rfl⟩

/-- Settles O36. -/
theorem warmRestartEffects : Obligations.WarmRestartEffects := by
  refine ⟨fun s src rest hs => ⟨hs.restart_taken, hs.restart_waits⟩,
    fun s reply waiting => ⟨execMgmtReplyTaken_restart waiting, fun full => ?_⟩, fun s reply waiting room => ?_⟩
  · exact (execWarmRestart_eq waiting).trans (congrArg Host.Outcome.next (if_neg (s.trunkLocalRoom_iff.not.2 full.not_gt)))
  intro w quiet sent roundEnds
  have hrun : exec .warmRestart s = .next (s.restartReplied reply).warmRestart.settle :=
    (execWarmRestart_eq waiting).trans (congrArg Host.Outcome.next (if_pos (s.trunkLocalRoom_iff.2 room)))
  have h := (s.restartReplied reply).warmRestart_stages
  refine ⟨_, hrun, ?_⟩
  have hlast : exec .warmRestart s = .next ({ s with mgmt := { s.mgmt with mu := .idle } }.modPort .trunk
      (·.pushLocal reply)).warmRestart.settle := hrun
  generalize (s.restartReplied reply).warmRestart.settle = t at h
  obtain ⟨hmu, hinput, hsecond, hhour, hrequests, hlatches, hidle, hcleared, hsite, hmap, hprofiles, hceiling, htank, hreserve, hnode,
    hbaud, hgas, hreason, hsensor, hlost, hfilter, hagree, hqualifier, hdown, hunmapped, htrunk, hchain, hforward⟩ := h.frame
  refine ⟨hmu, hinput, hsecond, hlast, hhour, hrequests, hlatches, hidle, hcleared, hsite, hmap, hprofiles, hceiling, htank, hreserve,
    hnode, hbaud, hgas, hreason, hsensor, hlost, hfilter, hagree, hqualifier, hdown, hunmapped, htrunk, hchain, hforward, fun i => ?_,
    fun x hx hm => ?_, h.fan, fun i running name => ?_⟩
  · obtain ⟨hcfg, hsweep, hage, hretry, hnone, harrival, hcurrent, hvoltage, hmean, hcharge, hcensus, hsettling, hcells⟩ := h.string i
    refine ⟨hcfg, hsweep, hage, hretry, hnone, harrival, hcurrent, hvoltage, hmean, hcharge, hcensus, hsettling, hcells,
      fun b alone dry => ?_⟩
    obtain ⟨hbase, hback, hstays⟩ := h.string_job i b alone dry
    refine ⟨fun hw => hbase ⟨hw.busy, hw.names, hw.named, hw.state⟩, fun st hst hw => ?_, fun hw => hstays (hw.imp_left fun k =>
      ⟨k.busy, k.names, k.named, k.state⟩)⟩
    obtain ⟨hstate, hstart, hbay, hbusy, hended, hspread, hlimit, hduration, hfull, hopen⟩ :=
      hback st hst ⟨hw.busy, hw.names, hw.named, hw.state⟩
    exact ⟨hstate, hstart, hbay, hbusy, hended, hspread, hlimit, hduration, hfull, fun k => hopen (FramePath.open_of_quiet k)⟩
  · obtain ⟨hno, hswitch, hcharger⟩ := h.holds x hx hm
    exact ⟨hno, fun i b st hholder hw => hswitch i b st hholder ⟨hw.busy, hw.names, hw.named, hw.state⟩, hcharger⟩
  · obtain ⟨hfloat, hmanifold, hending, hfilling⟩ := h.round running name
    refine ⟨hfloat, hmanifold, hending, fun hfill => ?_⟩
    obtain ⟨hq, hno, hsome⟩ := hfilling hfill
    refine ⟨hq, hno, fun f hf => ?_⟩
    obtain ⟨hposted, hoffered, hwaits, hsent⟩ := hsome f hf
    exact ⟨hposted, hoffered, hwaits, fun hphase k => hsent hphase (FramePath.open_of_quiet k)⟩

end Sys2Proof.Machine
end
